-- ==== Sys2Proof/Word.lean ====
section
/-! DEFINITION. The machine's one word: the unsigned 8-bit byte (spec/00_scope.md R13). -/

namespace Sys2Proof

/-- R13: "Every value in the core is an unsigned 8-bit byte unless stated otherwise." -/
abbrev Byte := BitVec 8

end Sys2Proof
end

