-- ==== Sys2Proof/Syntax.lean ====
section
/-! DEFINITION. The closed enumerations and compound values of the spec (spec/00_scope.md R15 to R17), the two forms of a
transaction (spec/30_encoding.md R75), a call as the caller presents it, and the instructions: one constructor of Instr for each row
of spec/opcode_table.json. -/

namespace Sys2Proof

/-- R16: the kind of DALI target. -/
inductive Selector where
  | short
  | group
  | broadcast
deriving DecidableEq, Repr

/-- R16: the access mode; `dapc` is DirectArcPowerControl. -/
inductive Mode where
  | command
  | dapc
deriving DecidableEq, Repr

/-- R17: the pair a SEND or QUERY writes to the gateway. -/
structure DaliCommand where
  address : Byte
  data : Byte
deriving DecidableEq, Repr

/-- R15: a result is `Ok v` or `Err e`. -/
inductive Result (ε α : Type) where
  | ok (v : α)
  | err (e : ε)
deriving DecidableEq, Repr

/-- R17, R94: the two failures of a transaction. -/
inductive TransportError where
  | nack
  | busTimeout
deriving DecidableEq, Repr, Inhabited

/-- R17: the Address Codec's one error; it carries no further information (R85). -/
inductive CodecError where
  | invalidTarget
deriving DecidableEq, Repr

/-- R17, R135: the Command Engine's errors. -/
inductive EngineError where
  | busFault
  | timeout
  | noReply
  | frameError
  | overrun
  | transport (e : TransportError)
deriving DecidableEq, Repr

/-- R17, R28: the eight flags of a status byte, bit 0 first. Bit 2 keeps the spec's name for it and has no meaning (R127). -/
structure StatusByte where
  oneByteReply : Bool
  twoByteReply : Bool
  frameTimeframeError : Bool
  replyValid : Bool
  frameError : Bool
  overrun : Bool
  busy : Bool
  busFault : Bool
deriving DecidableEq, Repr

/-- R75: the two forms of a transaction, `W(reg, payload)` and `R(reg, n)`. -/
inductive Transaction where
  | write (reg : Byte) (payload : List Byte)
  | read (reg : Byte) (n : Nat)
deriving DecidableEq, Repr

/-- R63 and the "format" column of spec/opcode_table.json: which of the table's three formats a call is written in. -/
inductive Format where
  | operation
  | addressByte
  | transaction
deriving DecidableEq, Repr

/-- A call as the caller presents it: its format and its bytes, the lead byte first. The spec gives the selector's and the address
byte's bits (R76, R64) and no bits to the other operands (R63): their layout is the model's. DESIGN CHOICE (log 2); safe. -/
structure Call where
  format : Format
  bytes : List Byte
deriving DecidableEq, Repr

/-- Why the decoder refuses a call. -/
inductive DecodeRefusal where
  /-- R77: selector 6 or 7, which name no operation. -/
  | noSuchSelector
  /-- Lead byte of an operation with a bit set above the 3-bit selector of R76 (log 2). -/
  | leadBitsSet
  /-- R77: an operand outside Short, Group, Broadcast, or outside Command, DAPC. -/
  | notInEnumeration
  /-- The call's bytes are fewer or more than its operands need. -/
  | wrongByteCount
  /-- R92, D12: a payload of length 0. -/
  | zeroLength
  /-- A length field that stands for 256, which no u8 length is (R75, log 2). -/
  | lengthTooLarge
  /-- R70, R71: an address byte 0xA0 to 0xFD, which no form of the codec has. -/
  | notProduced
  /-- A transaction whose direction byte is neither read nor write (R75 has two forms only). -/
  | noSuchDirection
deriving DecidableEq, Repr

/-- The instructions: one constructor for each row of spec/opcode_table.json, in the table's order. -/
inductive Instr where
  /-- ENCODE_ADDRESS, R81. -/
  | encodeAddress (sel : Selector) (target : Byte) (mode : Mode)
  /-- WRITE_REGISTER, R92. -/
  | writeRegister (reg : Byte) (payload : List Byte)
  /-- READ_REGISTER, R93. -/
  | readRegister (reg : Byte) (length : Byte)
  /-- SEND, R99. -/
  | send (address : Byte) (data : Byte)
  /-- QUERY, R100. -/
  | query (address : Byte) (data : Byte)
  /-- DECODE_STATUS, R124. -/
  | decodeStatus (b : Byte)
  /-- ADDR_SHORT, the address byte 0TTTTTTS, R82. -/
  | addrShort (target : BitVec 6) (mode : Mode)
  /-- ADDR_GROUP, the address byte 100GGGGS, R83. -/
  | addrGroup (group : BitVec 4) (mode : Mode)
  /-- ADDR_BROADCAST, the address byte 1111111S, R84. -/
  | addrBroadcast (mode : Mode)
  /-- RD_STATUS, R(0x00, 1), R42. -/
  | rdStatus
  /-- WR_COMMAND, W(0x01, [address, data]), R43. -/
  | wrCommand (address : Byte) (data : Byte)
  /-- RD_REPLY, R(0x01, 1), R44. -/
  | rdReply
  /-- WR_CONFIG, W(0x02, [b]), R45. -/
  | wrConfig (b : Byte)
  /-- RD_SIGNATURE, R(0xF0, 6), R46. -/
  | rdSignature
  /-- WR_I2C_ADDR, W(0xFE, [b0, b1]), R47. -/
  | wrI2cAddr (b0 : Byte) (b1 : Byte)
deriving DecidableEq, Repr

end Sys2Proof
end

