-- ==== Sys2Proof/Machine/Operands.lean ====
section
/-! DEFINITION. Operand assembly: the DaliAddress byte (spec/40_address_codec.md, spec/30_encoding.md R64 to R71) and the command
payload (R72). -/

namespace Sys2Proof.Machine

/-- R10: the largest short-address target. -/
def shortMax : Byte := 63
/-- R10: the largest group-address target. -/
def groupMax : Byte := 15
/-- R10: the target forced for Broadcast. -/
def broadcastTarget : Byte := 63

/-- R65: the access-mode bit S is 1 for Command and 0 for DirectArcPowerControl. -/
def modeBit : Mode → Byte
  | .command => 0x01
  | .dapc => 0x00

/-- R65, the other way: the mode an S bit stands for. -/
def modeOfBit (s : Bool) : Mode :=
  if s then .command else .dapc

/-- R69: the selector bit of the address byte. -/
def selectorBit : Selector → Byte
  | .short => 0x00
  | .group => 0x80
  | .broadcast => 0x80

/-- R69: the address byte of a target, `(target << 1) | selector_bit | mode_bit`. -/
def addressByte (sel : Selector) (target : Byte) (mode : Mode) : Byte :=
  (target <<< 1) ||| selectorBit sel ||| modeBit mode

/-- R81: ENCODE_ADDRESS, pure and total (R86). The bound is checked for Short and Group only; Broadcast forces the target to 63. -/
def encodeAddress (sel : Selector) (target : Byte) (mode : Mode) : Result CodecError Byte :=
  match sel with
  | .short => if target > shortMax then .err .invalidTarget else .ok (addressByte .short target mode)
  | .group => if target > groupMax then .err .invalidTarget else .ok (addressByte .group target mode)
  | .broadcast => .ok (addressByte .broadcast broadcastTarget mode)

/-- R70: the forms an address byte may have. -/
inductive AddressForm where
  | shortForm (t : BitVec 6) (mode : Mode)
  | groupForm (g : BitVec 4) (mode : Mode)
  | broadcastForm (mode : Mode)
  | notProduced
deriving DecidableEq, Repr

/-- R70: classification of an arbitrary byte. -/
def classify (a : Byte) : AddressForm :=
  let s := modeOfBit (a.getLsbD 0)
  if a.getLsbD 7 = false then .shortForm (a.extractLsb' 1 6) s
  else if a.extractLsb' 5 2 = 0 then .groupForm (a.extractLsb' 1 4) s
  else if a.extractLsb' 1 7 = 127 then .broadcastForm s
  else .notProduced

/-- R70: the byte of a form, by the codec's own encoding (R82, R83, R84). -/
def AddressForm.byte? : AddressForm → Option Byte
  | .shortForm t m => some (addressByte .short (t.zeroExtend 8) m)
  | .groupForm g m => some (addressByte .group (g.zeroExtend 8) m)
  | .broadcastForm m => some (addressByte .broadcast broadcastTarget m)
  | .notProduced => none

/-- R72, R49: the two bytes written to the command register, address byte first. -/
def commandPayload (c : DaliCommand) : List Byte :=
  [c.address, c.data]

/-- R100, R101: `r[0]`, the byte of a one-byte read. A read of length 1 that succeeds has exactly one byte (R39), so the default
is never taken. -/
def firstByte (bs : List Byte) : Byte :=
  bs.headD 0

end Sys2Proof.Machine
end

