-- ==== Sys2Proof/Machine/RegisterMap.lean ====
section
/-! DEFINITION. The gateway's register map (spec/20_memory.md R40) and the parameters' default (spec/00_scope.md R10): the numeric
literals, which the spec calls unaudited (R163, log 22), in one place. -/

namespace Sys2Proof.Machine

/-- R10, R154: the default of `GATEWAY_ADDR`. -/
def gatewayAddrDefault : Byte := 0x23

/-- R10, R42: `REG_STATUS`. -/
def regStatus : Byte := 0x00
/-- R10, R43, R44: `REG_COMMAND`. -/
def regCommand : Byte := 0x01
/-- R10, R45: `REG_CONFIG`. -/
def regConfig : Byte := 0x02
/-- R10, R46: `REG_SIGNATURE`. -/
def regSignature : Byte := 0xF0
/-- R10, R47: `REG_I2C_ADDR`. -/
def regI2cAddr : Byte := 0xFE

/-- R40, R46: the Device signature's size in bytes. -/
def signatureSize : Nat := 6

/-- One row of R40's table, with the command register's two directions apart (C3): the read size if it may be read, the write size
if it may be written. -/
structure RegisterRow where
  reg : Byte
  readSize : Option Nat
  writeSize : Option Nat
deriving DecidableEq, Repr

/-- R40, with R44 and C3 for the one-byte reply read of register 0x01. -/
def registerMap : List RegisterRow :=
  [ ⟨regStatus, some 1, none⟩,
    ⟨regCommand, some 1, some 2⟩,
    ⟨regConfig, none, some 1⟩,
    ⟨regSignature, some 6, none⟩,
    ⟨regI2cAddr, none, some 2⟩ ]

/-- R41, R48: whether a transaction keeps to the register map: a mapped id, in a direction its access column allows, of the
register's size. The machine performs the others too, with the same free outcome (R48). -/
def withinRegisterMap (t : Transaction) : Bool :=
  registerMap.any fun row =>
    match t with
    | .write reg payload => row.reg == reg && row.writeSize == some payload.length
    | .read reg n => row.reg == reg && row.readSize == some n

/-- R37: the three kinds of transaction the Command Engine issues. -/
def isEngineTransaction : Transaction → Bool
  | .write reg payload => reg == regCommand && payload.length == 2
  | .read reg n => (reg == regStatus || reg == regCommand) && n == 1

end Sys2Proof.Machine
end

