-- ==== Sys2Proof/WellFormed.lean ====
section
/-! DEFINITION. Which instructions and which parameters are well-formed. -/

namespace Sys2Proof

/-- An instruction is well-formed unless it is a transaction of length 0: R92 "A payload of length 0 is ill-formed and refused",
R93 "A length of 0 is ill-formed and refused". Every other operand has a type whose every value the spec admits. -/
def Instr.wellFormed : Instr → Bool
  | .encodeAddress _ _ _ => true
  | .writeRegister _ payload => !payload.isEmpty
  | .readRegister _ length => length != 0
  | .send _ _ => true
  | .query _ _ => true
  | .decodeStatus _ => true
  | .addrShort _ _ => true
  | .addrGroup _ _ => true
  | .addrBroadcast _ => true
  | .rdStatus => true
  | .wrCommand _ _ => true
  | .rdReply => true
  | .wrConfig _ => true
  | .rdSignature => true
  | .wrI2cAddr _ _ => true

/-- R11: a configuration with `MAX_POLLS = 0` or with `GATEWAY_ADDR > 0x7F` is ill-formed. -/
def parametersWellFormed (gatewayAddr : Byte) (maxPolls : Nat) : Bool :=
  match maxPolls with
  | 0 => false
  | _ + 1 => gatewayAddr ≤ 0x7F

end Sys2Proof
end

