-- ==== Sys2Proof/Decode.lean ====
section
/-! DEFINITION. The decoder, total on any call and rejecting by name; the encoder after it; the opcode table's rows.
The spec gives the lead byte of an operation (the selector, R76) and the address byte (R64 to R71). The bytes of the other operands
and of a transaction are the model's layout. DESIGN CHOICE (log 2); safe.

- operation: the selector in bits 2:0 of the lead byte, its other bits 0; then the operands in the order of R76. A Selector is 0 Short,
  1 Group, 2 Broadcast; a Mode is its S bit (R65); a length is stored less 1; a payload is the rest of the call.
- addressByte: the one address byte.
- transaction: 0 for R or 1 for W, the register id, then the length less 1 or the payload. -/

namespace Sys2Proof

open Sys2Proof.Machine

/-- What a decoding function answers. -/
abbrev Decoded := Except DecodeRefusal Instr

/-- The operand byte of a Selector (R16, R77, log 2). -/
def selectorOf (b : Byte) : Option Selector :=
  if b = 0 then some .short
  else if b = 1 then some .group
  else if b = 2 then some .broadcast
  else none

/-- The operand byte of a Mode, its S bit (R65, R77, log 2). -/
def modeOf (b : Byte) : Option Mode :=
  if b = 0 then some .dapc
  else if b = 1 then some .command
  else none

/-- The length a length byte stands for: one more than the byte, up to 255 (R52, R75, log 2). -/
def lengthOf (b : Byte) : Except DecodeRefusal Byte :=
  if b = 0xFF then .error .lengthTooLarge else .ok (b + 1)

/-- R81's operands. -/
def decodeEncodeAddress : List Byte → Decoded
  | [sel, target, mode] =>
    match selectorOf sel, modeOf mode with
    | some sel, some mode => .ok (.encodeAddress sel target mode)
    | _, _ => .error .notInEnumeration
  | _ => .error .wrongByteCount

/-- R92's operands. -/
def decodeWriteRegister : List Byte → Decoded
  | [] => .error .wrongByteCount
  | [_] => .error .zeroLength
  | reg :: b :: bs => .ok (.writeRegister reg (b :: bs))

/-- R93's operands. -/
def decodeReadRegister : List Byte → Decoded
  | [reg, len] =>
    match lengthOf len with
    | .ok n => .ok (.readRegister reg n)
    | .error e => .error e
  | _ => .error .wrongByteCount

/-- R99's operands. -/
def decodeSend : List Byte → Decoded
  | [address, data] => .ok (.send address data)
  | _ => .error .wrongByteCount

/-- R100's operands. -/
def decodeQuery : List Byte → Decoded
  | [address, data] => .ok (.query address data)
  | _ => .error .wrongByteCount

/-- R124's operand. -/
def decodeDecodeStatus : List Byte → Decoded
  | [b] => .ok (.decodeStatus b)
  | _ => .error .wrongByteCount

/-- R76, R77: an operation by its 3-bit selector; selectors 6 and 7 name none. -/
def decodeOperation (lead : Byte) (operands : List Byte) : Decoded :=
  if lead.extractLsb' 3 5 ≠ 0 then .error .leadBitsSet
  else
    match (lead.extractLsb' 0 3).toNat with
    | 0 => decodeEncodeAddress operands
    | 1 => decodeWriteRegister operands
    | 2 => decodeReadRegister operands
    | 3 => decodeSend operands
    | 4 => decodeQuery operands
    | 5 => decodeDecodeStatus operands
    | _ => .error .noSuchSelector

/-- R70: an address byte by its form. -/
def decodeAddressByte (a : Byte) : Decoded :=
  match classify a with
  | .shortForm t m => .ok (.addrShort t m)
  | .groupForm g m => .ok (.addrGroup g m)
  | .broadcastForm m => .ok (.addrBroadcast m)
  | .notProduced => .error .notProduced

/-- R75, R40: a read transaction. One that is no row of the opcode table is READ_REGISTER's (R48, log 23). -/
def decodeRead (reg n : Byte) : Instr :=
  if reg = regStatus ∧ n = 1 then .rdStatus
  else if reg = regCommand ∧ n = 1 then .rdReply
  else if reg = regSignature ∧ n.toNat = signatureSize then .rdSignature
  else .readRegister reg n

/-- R75, R40: a write transaction. One that is no row of the opcode table is WRITE_REGISTER's (R48, log 23). -/
def decodeWrite (reg : Byte) (payload : List Byte) : Decoded :=
  match payload with
  | [] => .error .zeroLength
  | [b] => .ok (if reg = regConfig then .wrConfig b else .writeRegister reg [b])
  | [b0, b1] =>
    .ok (if reg = regCommand then .wrCommand b0 b1
      else if reg = regI2cAddr then .wrI2cAddr b0 b1
      else .writeRegister reg [b0, b1])
  | b0 :: b1 :: b2 :: bs => .ok (.writeRegister reg (b0 :: b1 :: b2 :: bs))

/-- R75: a transaction by its direction. -/
def decodeTransaction (direction : Byte) (rest : List Byte) : Decoded :=
  if direction = 0 then
    match rest with
    | [reg, len] =>
      match lengthOf len with
      | .ok n => .ok (decodeRead reg n)
      | .error e => .error e
    | _ => .error .wrongByteCount
  else if direction = 1 then
    match rest with
    | [] => .error .wrongByteCount
    | reg :: payload => decodeWrite reg payload
  else .error .noSuchDirection

/-- The decoder: the instruction of a call, or the name of what is wrong with it. -/
def decode (c : Call) : Decoded :=
  match c.format, c.bytes with
  | .operation, lead :: operands => decodeOperation lead operands
  | .addressByte, [a] => decodeAddressByte a
  | .transaction, direction :: rest => decodeTransaction direction rest
  | .operation, [] => .error .wrongByteCount
  | .addressByte, [] => .error .wrongByteCount
  | .addressByte, _ :: _ :: _ => .error .wrongByteCount
  | .transaction, [] => .error .wrongByteCount

/-! ### The encoder -/

/-- The operand byte of a Selector (log 2). -/
def selectorCode : Selector → Byte
  | .short => 0
  | .group => 1
  | .broadcast => 2

/-- The length byte of a length (log 2). -/
def lengthCode (n : Byte) : Byte :=
  n - 1

/-- The call of a well-formed instruction, from the same layout as the decoder. -/
def encode : Instr → Call
  | .encodeAddress sel target mode => ⟨.operation, [0, selectorCode sel, target, modeBit mode]⟩
  | .writeRegister reg payload => ⟨.operation, 1 :: reg :: payload⟩
  | .readRegister reg length => ⟨.operation, [2, reg, lengthCode length]⟩
  | .send address data => ⟨.operation, [3, address, data]⟩
  | .query address data => ⟨.operation, [4, address, data]⟩
  | .decodeStatus b => ⟨.operation, [5, b]⟩
  | .addrShort target mode => ⟨.addressByte, [addressByte .short (target.zeroExtend 8) mode]⟩
  | .addrGroup group mode => ⟨.addressByte, [addressByte .group (group.zeroExtend 8) mode]⟩
  | .addrBroadcast mode => ⟨.addressByte, [addressByte .broadcast broadcastTarget mode]⟩
  | .rdStatus => ⟨.transaction, [0, regStatus, lengthCode 1]⟩
  | .wrCommand address data => ⟨.transaction, 1 :: regCommand :: commandPayload ⟨address, data⟩⟩
  | .rdReply => ⟨.transaction, [0, regCommand, lengthCode 1]⟩
  | .wrConfig b => ⟨.transaction, [1, regConfig, b]⟩
  | .rdSignature => ⟨.transaction, [0, regSignature, lengthCode (BitVec.ofNat 8 signatureSize)]⟩
  | .wrI2cAddr b0 b1 => ⟨.transaction, [1, regI2cAddr, b0, b1]⟩

/-! ### The opcode table -/

/-- A row of spec/opcode_table.json: the lead bytes every call of its instruction has, as format, mask and match. A transaction's row is
matched on the direction and the register id, an operation's or an address byte's on the lead byte. -/
structure OpcodeRow where
  mnemonic : String
  format : Format
  /-- The bytes compared, each as (mask, match). -/
  fixed : List (Byte × Byte)
deriving DecidableEq, Repr

/-- spec/opcode_table.json, in its order (R76, R64 to R68, R40). -/
def opcodeTable : List OpcodeRow :=
  [ ⟨"ENCODE_ADDRESS", .operation, [(0x07, 0x00)]⟩,
    ⟨"WRITE_REGISTER", .operation, [(0x07, 0x01)]⟩,
    ⟨"READ_REGISTER", .operation, [(0x07, 0x02)]⟩,
    ⟨"SEND", .operation, [(0x07, 0x03)]⟩,
    ⟨"QUERY", .operation, [(0x07, 0x04)]⟩,
    ⟨"DECODE_STATUS", .operation, [(0x07, 0x05)]⟩,
    ⟨"ADDR_SHORT", .addressByte, [(0x80, 0x00)]⟩,
    ⟨"ADDR_GROUP", .addressByte, [(0xE0, 0x80)]⟩,
    ⟨"ADDR_BROADCAST", .addressByte, [(0xFE, 0xFE)]⟩,
    ⟨"RD_STATUS", .transaction, [(0xFF, 0x00), (0xFF, regStatus)]⟩,
    ⟨"WR_COMMAND", .transaction, [(0xFF, 0x01), (0xFF, regCommand)]⟩,
    ⟨"RD_REPLY", .transaction, [(0xFF, 0x00), (0xFF, regCommand)]⟩,
    ⟨"WR_CONFIG", .transaction, [(0xFF, 0x01), (0xFF, regConfig)]⟩,
    ⟨"RD_SIGNATURE", .transaction, [(0xFF, 0x00), (0xFF, regSignature)]⟩,
    ⟨"WR_I2C_ADDR", .transaction, [(0xFF, 0x01), (0xFF, regI2cAddr)]⟩ ]

/-- The mnemonic of an instruction's row in spec/opcode_table.json. -/
def mnemonic : Instr → String
  | .encodeAddress _ _ _ => "ENCODE_ADDRESS"
  | .writeRegister _ _ => "WRITE_REGISTER"
  | .readRegister _ _ => "READ_REGISTER"
  | .send _ _ => "SEND"
  | .query _ _ => "QUERY"
  | .decodeStatus _ => "DECODE_STATUS"
  | .addrShort _ _ => "ADDR_SHORT"
  | .addrGroup _ _ => "ADDR_GROUP"
  | .addrBroadcast _ => "ADDR_BROADCAST"
  | .rdStatus => "RD_STATUS"
  | .wrCommand _ _ => "WR_COMMAND"
  | .rdReply => "RD_REPLY"
  | .wrConfig _ => "WR_CONFIG"
  | .rdSignature => "RD_SIGNATURE"
  | .wrI2cAddr _ _ => "WR_I2C_ADDR"

/-- Whether bytes begin as a row's (mask, match) pairs ask. -/
def matchesFixed : List (Byte × Byte) → List Byte → Bool
  | [], _ => true
  | _ :: _, [] => false
  | (mask, value) :: fixed, b :: bs => (b &&& mask == value) && matchesFixed fixed bs

/-- Whether a call has a row's format and fixed bits. -/
def OpcodeRow.covers (row : OpcodeRow) (c : Call) : Bool :=
  row.format == c.format && matchesFixed row.fixed c.bytes

/-! ### Words of the opcode table -/

/-- The `n` lowest bytes of a word, the lowest first. -/
def wordBytes : Nat → Nat → List Byte
  | 0, _ => []
  | n + 1, w => BitVec.ofNat 8 w :: wordBytes n (w / 256)

/-- How many bytes a table word's operation has, its operand bytes among them (a WRITE_REGISTER's payload then is one byte). -/
def operationLength (lead : Byte) : Nat :=
  match lead.toNat with
  | 0 => 4
  | 5 => 2
  | _ => 3

/-- How many bytes a table word's transaction has: direction, register id, then a length or the register's write size
(one byte where the map gives none). -/
def transactionLength (direction reg : Byte) : Nat :=
  if direction = 1 ∧ (reg = regCommand ∨ reg = regI2cAddr) then 4 else 3

/-- The call that a word of spec/opcode_table.json stands for: its lead bytes, with operand bytes of zeros above them. The table's
three formats number their bits alike, so the word alone must tell them apart: of one byte, a byte below 8 is an operation's selector
and any other an address byte; a word of more bytes is a transaction, its direction in the lowest byte. So the four address bytes
0x00 to 0x07 of ADDR_SHORT have no word here. DESIGN CHOICE (log 3); safe. -/
def callOfWord (nbits w : Nat) : Call :=
  let lead := BitVec.ofNat 8 w
  if nbits ≤ 8 then
    if w % 256 < 8 then ⟨.operation, lead :: wordBytes (operationLength lead - 1) 0⟩
    else ⟨.addressByte, [lead]⟩
  else ⟨.transaction, wordBytes (transactionLength lead (BitVec.ofNat 8 (w / 256))) w⟩

/-- The instruction the decoder reads from an opcode-table word. -/
def decodeTableWord (nbits w : Nat) : Option Instr :=
  match decode (callOfWord nbits w) with
  | .ok i => some i
  | .error _ => none

end Sys2Proof
end

