-- ==== Sys2Proof/Config.lean ====
section
/-! DEFINITION. What the spec leaves open: constants with no body, so that nothing can be proved of their values.
The spec's own numeric literals stand in Machine/RegisterMap.lean. -/

namespace Sys2Proof.Config

/-- The error, if any, of transaction number `k` when the environment's listed answers are used up: a free value, none where the
transaction succeeds (R39, R94, R155). DESIGN CHOICE of form (log 4); safe. -/
opaque freeError : Nat → Option TransportError

/-- Byte `i` read by transaction number `k` when the environment's listed answers are used up: a free value (R39, R155; log 4). -/
opaque freeByte : Nat → Nat → Byte

/-- The TransportError that transaction number `k` reports when the environment answers a read with the wrong number of bytes.
R93: such a transport "must report an error instead"; the spec does not say which kind: a free value (D12, log 5). -/
opaque wrongLengthError : Nat → TransportError

/-- The machine's MAX_POLLS at State.reset, less 1: R10 leaves it OPEN, a natural number of at least 1 (D4, log 8). -/
opaque pollBoundLess1 : Nat

end Sys2Proof.Config
end

