-- ==== Sys2Proof/Machine/State.lean ====
section
/-! DEFINITION. The machine's state, its faults and its refusals, and the state after reset. -/

namespace Sys2Proof.Machine

/-- R22: the phase register, which stands in for a program counter (R9). -/
inductive Phase where
  | idle
  | issue
  | wait
  | fetch
  | done
deriving DecidableEq, Repr

/-- R21: the operation in progress. -/
inductive Op where
  | send
  | query
deriving DecidableEq, Repr

/-- R24: the states of the ready-wait handshake. -/
inductive Handshake where
  | busy
  | ready
  | faulted
deriving DecidableEq, Repr

/-- R21: the success value of RESULT, Unit for SEND or a QueryResult for QUERY. -/
inductive EngineValue where
  | unit
  | reply (v : Byte)
deriving DecidableEq, Repr

/-- R21: the type of RESULT. -/
abbrev EngineResult := Result EngineError EngineValue

/-- R39: the environment's answer to one transaction: success with bytes, or a TransportError. -/
abbrev Answer := Result TransportError (List Byte)

/-- One transaction as it was performed: the device addressed (R34, R90), the transaction and its outcome (R58). A write that
succeeded has no bytes. -/
structure Event where
  device : Byte
  transaction : Transaction
  outcome : Answer
deriving DecidableEq, Repr

/-- What an operation returns to its caller (R134, R99, R100, R81, R92, R93, R124). -/
inductive CallResult where
  | address (r : Result CodecError Byte)
  | written (r : Result TransportError Unit)
  | bytesRead (r : Result TransportError (List Byte))
  | engine (r : EngineResult)
  | status (s : StatusByte)
deriving DecidableEq, Repr

/-- The engine registers whose reading a rule needs (R21). -/
inductive EngineRegister where
  | op
  | cmd
  | polls
  | captured
  | result
deriving DecidableEq, Repr

/-- Why the machine stops with a fault. -/
inductive Fault where
  /-- R21, D27: a step reads an engine register that is unset. Raised by the engine's steps, in states no run reaches only. Safe. -/
  | unsetRegister (r : EngineRegister)
  /-- CAPTURED holds None where R112 reads the ready-time status. Raised by the Fetch step, in states no run reaches only.
  DEDUCED (log 7); safe. -/
  | noReadyStatus
deriving DecidableEq, Repr

/-- Why the machine gives no step. -/
inductive Refusal where
  /-- An instruction with no meaning yet. Raised by no arm of exec; safe. -/
  | notModelled (mnemonic : String)
  /-- R33, R97: SEND, QUERY or a raw transport call presented while PHASE is not Idle. Raised by their meanings; safe. -/
  | operationInFlight
  /-- R92, R93, D12: a transaction of length 0. Raised by WRITE_REGISTER and READ_REGISTER; safe. -/
  | zeroLength
  /-- R11, D5, D18: MAX_POLLS = 0 or GATEWAY_ADDR > 0x7F. Raised by step and by construction; safe. -/
  | illFormedParameters
  /-- R77 and the encodings of spec/30_encoding.md: the call presented is no instruction. Raised by step; safe. -/
  | undecodable (r : DecodeRefusal)
deriving DecidableEq, Repr

/-- The machine: the parameters of R10 as R154 lists them, the Command Engine's registers of R21 (`none` is the spec's "unset"),
and the boundary with the caller and the environment, which is the model's own (log 1, log 4, log 6). -/
structure State where
  /-- R10: the 7-bit I2C address the transport addresses. No step writes it (R20). -/
  gatewayAddr : Byte
  /-- R10: the bound on status polls in one ready-wait. No step writes it (R20). -/
  maxPolls : Nat
  /-- R21, R22: PHASE. -/
  phase : Phase
  /-- R21, R23: OP. -/
  op : Option Op
  /-- R21, R23: CMD. -/
  cmd : Option DaliCommand
  /-- R21, R24: HS. -/
  hs : Option Handshake
  /-- R21, R25: POLLS. -/
  polls : Option Nat
  /-- R21, R26: CAPTURED; `some none` is the register's value None. -/
  captured : Option (Option StatusByte)
  /-- R21: RESULT. -/
  result : Option EngineResult
  /-- The calls the caller will still present, in order (R79; the model's own, log 1). -/
  pending : List Call
  /-- What operations have returned to the caller, oldest first (R134; the model's own, log 6). -/
  delivered : List CallResult
  /-- The environment's answers to the next transactions (R39; the model's own, log 4). -/
  answers : List Answer
  /-- How many transactions have been answered: the index of the next free value (the model's own, log 4). -/
  draws : Nat
  /-- The transactions performed, oldest first (R58, R75; the model's own, log 6). -/
  trace : List Event
deriving DecidableEq, Repr

/-- R154: the state of a Command Engine constructed with these parameters: PHASE is Idle and every other register is unset. -/
def State.constructed (gatewayAddr : Byte) (maxPolls : Nat) : State where
  gatewayAddr := gatewayAddr
  maxPolls := maxPolls
  phase := .idle
  op := none
  cmd := none
  hs := none
  polls := none
  captured := none
  result := none
  pending := []
  delivered := []
  answers := []
  draws := 0
  trace := []

/-- R154: reset is construction, with the default GATEWAY_ADDR and a MAX_POLLS of at least 1 that is otherwise free
(R10 leaves it OPEN: log 8). -/
def State.reset : State :=
  State.constructed gatewayAddrDefault (Config.pollBoundLess1 + 1)

end Sys2Proof.Machine
end

