-- ==== Sys2Proof/Machine/Ops.lean ====
section
/-! DEFINITION. The named operations on the state: transactions and their outcomes (spec/20_memory.md, spec/41_register_transport.md),
the engine's registers, raising an error and returning from an operation (spec/60_exceptions.md, spec/42_command_engine.md R114).
Errors are typed results, not traps (R134): `State.raise` is the one way an operation of the engine ends in an error, and
`State.deliver` the one way back to Idle. -/

namespace Sys2Proof.Machine

/-- What one step of this machine answers. -/
abbrev Outcome := Host.Outcome State Fault Refusal

/-! ### Transactions -/

/-- R39, R155: the answer to transaction number `k`, a read of `n` bytes or a write (`n = 0`), when the environment's listed answers
are used up: wholly free (log 4). -/
def freeAnswer (k n : Nat) : Answer :=
  match Config.freeError k with
  | some e => .err e
  | none => .ok ((List.range n).map (Config.freeByte k))

/-- R39: the environment's answer to the next transaction. Each transaction draws a fresh one (R55). -/
def State.nextAnswer (s : State) (n : Nat) : Answer :=
  match s.answers with
  | a :: _ => a
  | [] => freeAnswer s.draws n

/-- R92: what the next transaction returns if it is a write. The bytes of an answer mean nothing to a write (log 4). -/
def State.writeOutcome (s : State) : Result TransportError Unit :=
  match s.nextAnswer 0 with
  | .ok _ => .ok ()
  | .err e => .err e

/-- R93: what the next transaction returns if it is a read of `n` bytes. An answer of another length counts as a TransportError
(D12), of a kind the spec leaves open (log 5). -/
def State.readOutcome (s : State) (n : Nat) : Result TransportError (List Byte) :=
  match s.nextAnswer n with
  | .ok bs => if bs.length = n then .ok bs else .err (Config.wrongLengthError s.draws)
  | .err e => .err e

/-- R54, R91: one transaction as one indivisible event to the device `GATEWAY_ADDR` (R90): the environment's answer is used up and
the event joins the trace. -/
def State.perform (s : State) (t : Transaction) (outcome : Answer) : State :=
  { s with
    answers := s.answers.tail
    draws := s.draws + 1
    trace := s.trace ++ [⟨s.gatewayAddr, t, outcome⟩] }

/-- A write's outcome as the trace records it: no bytes. -/
def writeAnswer : Result TransportError Unit → Answer
  | .ok _ => .ok []
  | .err e => .err e

/-- R92: the state after one write transaction `W(reg, payload)`. No register of the core is written. -/
def State.afterWrite (s : State) (reg : Byte) (payload : List Byte) : State :=
  s.perform (.write reg payload) (writeAnswer s.writeOutcome)

/-- R93: the state after one read transaction `R(reg, n)`. No register of the core is written. -/
def State.afterRead (s : State) (reg : Byte) (n : Nat) : State :=
  s.perform (.read reg n) (s.readOutcome n)

/-! ### The caller -/

/-- R134: an operation returns its result to its caller. -/
def State.give (s : State) (r : CallResult) : State :=
  { s with delivered := s.delivered ++ [r] }

/-- R33, R97: a call that only an idle engine admits. -/
def State.whenIdle (s : State) (k : State → Outcome) : Outcome :=
  match s.phase with
  | .idle => k s
  | .issue | .wait | .fetch | .done => .refused .operationInFlight

/-- R92, R95, R97: WRITE_REGISTER called by the engine's owner: one transaction in Idle, its outcome returned as it is. -/
def rawWrite (reg : Byte) (payload : List Byte) (s : State) : Outcome :=
  s.whenIdle fun s => .next ((s.afterWrite reg payload).give (.written s.writeOutcome))

/-- R93, R95, R97: READ_REGISTER called by the engine's owner: one transaction in Idle, its outcome returned as it is. -/
def rawRead (reg : Byte) (n : Nat) (s : State) : Outcome :=
  s.whenIdle fun s => .next ((s.afterRead reg n).give (.bytesRead (s.readOutcome n)))

/-! ### The engine's registers -/

/-- Reading OP; unset, it faults (R21, D27). -/
def State.readOp (s : State) (k : Op → Outcome) : Outcome :=
  match s.op with
  | some o => k o
  | none => .fault (.unsetRegister .op)

/-- Reading CMD; unset, it faults (R21, D27). -/
def State.readCmd (s : State) (k : DaliCommand → Outcome) : Outcome :=
  match s.cmd with
  | some c => k c
  | none => .fault (.unsetRegister .cmd)

/-- Reading POLLS; unset, it faults (R21, D27). -/
def State.readPolls (s : State) (k : Nat → Outcome) : Outcome :=
  match s.polls with
  | some p => k p
  | none => .fault (.unsetRegister .polls)

/-- Reading the ready-time status in CAPTURED; unset or None, it faults (R21, D27, log 7). -/
def State.readCaptured (s : State) (k : StatusByte → Outcome) : Outcome :=
  match s.captured with
  | some (some st) => k st
  | some none => .fault .noReadyStatus
  | none => .fault (.unsetRegister .captured)

/-- Reading RESULT; unset, it faults (R21, D27). -/
def State.readResult (s : State) (k : EngineResult → Outcome) : Outcome :=
  match s.result with
  | some r => k r
  | none => .fault (.unsetRegister .result)

/-- R105: SEND or QUERY is accepted: OP and CMD are loaded, CAPTURED becomes None, PHASE becomes Issue. No transaction. -/
def State.accept (s : State) (op : Op) (cmd : DaliCommand) : State :=
  { s with op := some op, cmd := some cmd, captured := some none, phase := .issue }

/-- R106: the command write succeeded: the handshake starts in Busy with no poll made. -/
def State.startWait (s : State) : State :=
  { s with hs := some .busy, polls := some 0, phase := .wait }

/-- R107: a poll that read a status: POLLS counts it, CAPTURED holds it. -/
def State.countPoll (s : State) (polls : Nat) (st : StatusByte) : State :=
  { s with polls := some (polls + 1), captured := some (some st) }

/-- R24: HS takes a terminal value. -/
def State.setHs (s : State) (h : Handshake) : State :=
  { s with hs := some h }

/-- R111: a QUERY whose ready-wait ended in Ready reads the reply next. -/
def State.toFetch (s : State) : State :=
  { s with phase := .fetch }

/-- The operation ends with this result: RESULT is set and PHASE becomes Done, to be delivered by the next step (R22). -/
def State.finish (s : State) (r : EngineResult) : State :=
  { s with result := some r, phase := .done }

/-- R144: an error ends the operation at once; RESULT holds it. Nothing else is saved and nothing is undone. -/
def State.raise (s : State) (e : EngineError) : State :=
  s.finish (.err e)

/-- R27, R114: PHASE becomes Idle and every other register of R21 unset. -/
def State.toIdle (s : State) : State :=
  { s with
    phase := .idle
    op := none
    cmd := none
    hs := none
    polls := none
    captured := none
    result := none }

/-- R114: the engine returns RESULT to the caller and is idle again. No transaction. -/
def State.deliver (s : State) (r : EngineResult) : State :=
  (s.give (.engine r)).toIdle

/-! ### Construction -/

/-- R154, R11: constructing a Command Engine; ill-formed parameters are refused. -/
def construct (gatewayAddr : Byte) (maxPolls : Nat) : Outcome :=
  if parametersWellFormed gatewayAddr maxPolls then .next (State.constructed gatewayAddr maxPolls)
  else .refused .illFormedParameters

end Sys2Proof.Machine
end

