-- ==== Sys2Proof/Machine/AddressCodec.lean ====
section
/-! DEFINITION. The Address Codec's instructions (spec/40_address_codec.md). Each returns its result to the caller and writes no state of
the core; none issues a transaction (R85, R86). They read no state, so no phase stops them (log 12). -/

namespace Sys2Proof.Machine

/-- R81: ENCODE_ADDRESS. -/
def execEncodeAddress (sel : Selector) (target : Byte) (mode : Mode) (s : State) : Outcome :=
  .next (s.give (.address (encodeAddress sel target mode)))

/-- R82, R66: the short-address form, `0TTTTTTS`, of a target of six bits. DEDUCED (log 10). -/
def execAddrShort (target : BitVec 6) (mode : Mode) (s : State) : Outcome :=
  .next (s.give (.address (encodeAddress .short (target.zeroExtend 8) mode)))

/-- R83, R67: the group-address form, `100GGGGS`, of a group of four bits. DEDUCED (log 10). -/
def execAddrGroup (group : BitVec 4) (mode : Mode) (s : State) : Outcome :=
  .next (s.give (.address (encodeAddress .group (group.zeroExtend 8) mode)))

/-- R84, R68: the broadcast form, `1111111S`. DEDUCED (log 10). -/
def execAddrBroadcast (mode : Mode) (s : State) : Outcome :=
  .next (s.give (.address (encodeAddress .broadcast broadcastTarget mode)))

end Sys2Proof.Machine
end

