-- ==== Sys2Proof/Machine/Flags.lean ====
section
/-! DEFINITION. The status flags: decoding and encoding a status byte (spec/43_status_interpreter.md), the handshake class and a
query's interpretation (spec/42_command_engine.md R113). -/

namespace Sys2Proof.Machine

/-- R124 with the layout of R74: each flag is its own bit of the status byte. -/
def decodeStatus (b : Byte) : StatusByte where
  oneByteReply := b.getLsbD 0
  twoByteReply := b.getLsbD 1
  frameTimeframeError := b.getLsbD 2
  replyValid := b.getLsbD 3
  frameError := b.getLsbD 4
  overrun := b.getLsbD 5
  busy := b.getLsbD 6
  busFault := b.getLsbD 7

/-- R133: `2^i` where the flag is set. -/
def flagMask (flag : Bool) (i : Nat) : Byte :=
  if flag then 1 <<< i else 0

/-- R133: ENCODE_STATUS, the sum of the flags' weights in the bit order of R124. -/
def encodeStatus (f : StatusByte) : Byte :=
  flagMask f.oneByteReply 0 + flagMask f.twoByteReply 1 + flagMask f.frameTimeframeError 2 + flagMask f.replyValid 3 +
    flagMask f.frameError 4 + flagMask f.overrun 5 + flagMask f.busy 6 + flagMask f.busFault 7

/-- R132: the class the ready-wait gives a status; busy is tested before bus-fault (R102, D22, log 17). -/
def hsClass (s : StatusByte) : Handshake :=
  if s.busy then .busy else if s.busFault then .faulted else .ready

/-- R113: INTERPRET of the ready-time status and the reply byte. Frame-error comes before overrun (D6, log 15) and both before a
missing reply-valid (C8). Bits 0 to 2 are not read (R116, R127, log 19). -/
def interpret (s : StatusByte) (v : Byte) : EngineResult :=
  if s.frameError then .err .frameError
  else if s.overrun then .err .overrun
  else if s.replyValid then .ok (.reply v)
  else .err .noReply

end Sys2Proof.Machine
end

