-- ==== Sys2Proof/Machine/Engine.lean ====
section
/-! DEFINITION. The Command Engine: accepting SEND and QUERY, and its step relation (spec/42_command_engine.md R105 to R114). One step
performs at most one transaction. The engine passes the command through unchecked (R115) and does not poll before it (R117). -/

namespace Sys2Proof.Machine

/-- R99, R105: SEND is accepted in Idle; the steps below run it. Presented in another phase it is refused (R33). Log 14. -/
def execSend (address data : Byte) (s : State) : Outcome :=
  s.whenIdle fun s => .next (s.accept .send ⟨address, data⟩)

/-- R100, R105: QUERY is accepted in Idle; the steps below run it. Presented in another phase it is refused (R33). Log 14. -/
def execQuery (address data : Byte) (s : State) : Outcome :=
  s.whenIdle fun s => .next (s.accept .query ⟨address, data⟩)

/-- R106: the command write `W(REG_COMMAND, [CMD.address, CMD.data])`. -/
def issueStep (s : State) : Outcome :=
  s.readCmd fun c =>
    let t := s.afterWrite regCommand (commandPayload c)
    match s.writeOutcome with
    | .ok _ => .next t.startWait
    | .err e => .next (t.raise (.transport e))

/-- R109, R110, R111: what a poll's status does. Busy is tested first (R102, D22, log 17): HS stays Busy and PHASE stays Wait. -/
def settlePoll (st : StatusByte) (s : State) : Outcome :=
  match hsClass st with
  | .busy => .next s
  | .faulted => .next ((s.setHs .faulted).raise .busFault)
  | .ready =>
    s.readOp fun op =>
      match op with
      | .send => .next ((s.setHs .ready).finish (.ok .unit))
      | .query => .next (s.setHs .ready).toFetch

/-- R107: one poll, `R(REG_STATUS, 1)`, with `polls` polls made before it. A poll that fails is not counted. -/
def pollStep (polls : Nat) (s : State) : Outcome :=
  let t := s.afterRead regStatus 1
  match s.readOutcome 1 with
  | .ok bs =>
    let st := decodeStatus (firstByte bs)
    settlePoll st (t.countPoll polls st)
  | .err e => .next (t.raise (.transport e))

/-- R107, R108: below the bound the engine polls; at it the wait ends in Timeout with no transaction and HS stays Busy. (POLLS above
MAX_POLLS, which R25 excludes, ends the wait too: log 13.) -/
def waitStep (s : State) : Outcome :=
  s.readPolls fun polls =>
    if polls < s.maxPolls then pollStep polls s else .next (s.raise .timeout)

/-- R112: the reply read `R(REG_COMMAND, 1)`, interpreted with the ready-time status in CAPTURED (R26, R113). It is made whatever that
status is, and its own failure comes first (D7, log 16). -/
def fetchStep (s : State) : Outcome :=
  let t := s.afterRead regCommand 1
  match s.readOutcome 1 with
  | .ok bs => s.readCaptured fun st => .next (t.finish (interpret st (firstByte bs)))
  | .err e => .next (t.raise (.transport e))

/-- R114: RESULT is delivered and the engine is idle again. -/
def doneStep (s : State) : Outcome :=
  s.readResult fun r => .next (s.deliver r)

end Sys2Proof.Machine
end

