-- ==== Sys2Proof/Machine/StatusInterpreter.lean ====
section
/-! DEFINITION. The Status Interpreter's instruction (spec/43_status_interpreter.md). -/

namespace Sys2Proof.Machine

/-- R124, R125: DECODE_STATUS returns the eight flags; it never fails, writes no state of the core and issues no transaction. It reads
no state, so no phase stops it (log 12). -/
def execDecodeStatus (b : Byte) (s : State) : Outcome :=
  .next (s.give (.status (decodeStatus b)))

end Sys2Proof.Machine
end

