-- ==== Sys2Proof/Machine/Transport.lean ====
section
/-! DEFINITION. The Register Transport's instructions (spec/41_register_transport.md) and the six transactions of the gateway's register
map (spec/20_memory.md R42 to R47), each a raw call by the engine's owner, admitted in Idle only (R97). -/

namespace Sys2Proof.Machine

/-- R92: WRITE_REGISTER. A payload of length 0 is refused in every phase (D12, log 21); every register id and size is performed (R48). -/
def execWriteRegister (reg : Byte) (payload : List Byte) (s : State) : Outcome :=
  if payload.isEmpty then .refused .zeroLength else rawWrite reg payload s

/-- R93: READ_REGISTER. A length of 0 is refused in every phase (D12, log 21); every register id and size is performed (R48). -/
def execReadRegister (reg : Byte) (length : Byte) (s : State) : Outcome :=
  if length = 0 then .refused .zeroLength else rawRead reg length.toNat s

/-- R42: a one-byte read of the status register. DEDUCED (log 11). -/
def execRdStatus (s : State) : Outcome :=
  rawRead regStatus 1 s

/-- R43, R72: the two-byte write of the command register. DEDUCED (log 11). -/
def execWrCommand (address data : Byte) (s : State) : Outcome :=
  rawWrite regCommand (commandPayload ⟨address, data⟩) s

/-- R44: a one-byte read of the command register, the reply byte. DEDUCED (log 11). -/
def execRdReply (s : State) : Outcome :=
  rawRead regCommand 1 s

/-- R45: the one-byte write of the config register, its payload opaque. DEDUCED (log 11). -/
def execWrConfig (b : Byte) (s : State) : Outcome :=
  rawWrite regConfig [b] s

/-- R46: the six-byte read of the device signature, in no byte order (R50). DEDUCED (log 11). -/
def execRdSignature (s : State) : Outcome :=
  rawRead regSignature signatureSize s

/-- R47: the two-byte write of the address-reprogramming register, its payload opaque. `GATEWAY_ADDR` stays as it is (R20).
DEDUCED (log 11). -/
def execWrI2cAddr (b0 b1 : Byte) (s : State) : Outcome :=
  rawWrite regI2cAddr [b0, b1] s

end Sys2Proof.Machine
end

