-- ==== Sys2Proof/Machine/Dispatch.lean ====
section
/-! DEFINITION. One arm per instruction, each one call of its meaning. -/

namespace Sys2Proof.Machine

def exec (i : Instr) (s : State) : Host.Outcome State Fault Refusal :=
  match i with
  | .encodeAddress sel target mode => Sys2Proof.Machine.execEncodeAddress sel target mode s
  | .writeRegister reg payload => Sys2Proof.Machine.execWriteRegister reg payload s
  | .readRegister reg length => Sys2Proof.Machine.execReadRegister reg length s
  | .send address data => Sys2Proof.Machine.execSend address data s
  | .query address data => Sys2Proof.Machine.execQuery address data s
  | .decodeStatus b => Sys2Proof.Machine.execDecodeStatus b s
  | .addrShort target mode => Sys2Proof.Machine.execAddrShort target mode s
  | .addrGroup group mode => Sys2Proof.Machine.execAddrGroup group mode s
  | .addrBroadcast mode => Sys2Proof.Machine.execAddrBroadcast mode s
  | .rdStatus => Sys2Proof.Machine.execRdStatus s
  | .wrCommand address data => Sys2Proof.Machine.execWrCommand address data s
  | .rdReply => Sys2Proof.Machine.execRdReply s
  | .wrConfig b => Sys2Proof.Machine.execWrConfig b s
  | .rdSignature => Sys2Proof.Machine.execRdSignature s
  | .wrI2cAddr b0 b1 => Sys2Proof.Machine.execWrI2cAddr b0 b1 s

end Sys2Proof.Machine
end

