-- ==== Sys2Proof/Machine/Fetch.lean ====
section
/-! DEFINITION. Where the machine's next instruction comes from: the caller presents its calls one after another (R58, R79, log 1). -/

namespace Sys2Proof.Machine

/-- R79: the next call the caller presents, and the state once it is presented. -/
def State.takeCall (s : State) : Option (Call × State) :=
  match s.pending with
  | [] => none
  | c :: rest => some (c, { s with pending := rest })

/-- R58, R105: the caller presents a call to an idle engine, before the calls still pending. An operation in flight, which would block
the caller, is put aside (log 1). -/
def State.present (s : State) (c : Call) : State :=
  { s.toIdle with pending := c :: s.pending }

/-- In Idle: the caller's next call is decoded and run. With none the core waits in Idle (log 1). -/
def callStep (s : State) : Outcome :=
  match s.takeCall with
  | none => .next s
  | some (c, t) =>
    match Sys2Proof.decode c with
    | .ok i => exec i t
    | .error e => .refused (.undecodable e)

end Sys2Proof.Machine
end

