-- ==== Sys2Proof/Machine/Step.lean ====
section
/-! DEFINITION. One step of the machine. -/

namespace Sys2Proof.Machine

/-- R9: one step accepts or runs a call, performs one transaction, ends the wait by its bound or delivers one result, as PHASE says.
Ill-formed parameters are refused (R11, log 9). -/
def step (s : State) : Host.Outcome State Fault Refusal :=
  match parametersWellFormed s.gatewayAddr s.maxPolls with
  | false => .refused .illFormedParameters
  | true =>
    match s.phase with
    | .idle => callStep s
    | .issue => issueStep s
    | .wait => waitStep s
    | .fetch => fetchStep s
    | .done => doneStep s

/-- The state in which the very next step runs the instruction of an opcode-table word: its call presented to an idle engine. -/
def State.withFetchWord (s : State) (nbits w : Nat) : State :=
  s.present (callOfWord nbits w)

end Sys2Proof.Machine
end

