-- ==== Sys2Proof/Machine/Errors.lean ====
section
/-! DEFINITION. The error kinds and the spec's own codes for them (spec/60_exceptions.md R135, D3, log 27). No register holds a code. -/

namespace Sys2Proof.Machine

/-- R135: the code of a TransportError, wrapped or bare. -/
def transportErrorCode : TransportError → Nat
  | .nack => 2
  | .busTimeout => 3

/-- R135: the code of a CodecError. -/
def codecErrorCode : CodecError → Nat
  | .invalidTarget => 1

/-- R135: the code of an EngineError. -/
def engineErrorCode : EngineError → Nat
  | .transport e => transportErrorCode e
  | .busFault => 4
  | .timeout => 5
  | .noReply => 6
  | .frameError => 7
  | .overrun => 8

/-- R135: the code of the error a call returned, if it returned one. -/
def CallResult.errorCode? : CallResult → Option Nat
  | .address (.err e) => some (codecErrorCode e)
  | .written (.err e) => some (transportErrorCode e)
  | .bytesRead (.err e) => some (transportErrorCode e)
  | .engine (.err e) => some (engineErrorCode e)
  | .address (.ok _) => none
  | .written (.ok _) => none
  | .bytesRead (.ok _) => none
  | .engine (.ok _) => none
  | .status _ => none

end Sys2Proof.Machine
end

