-- ==== Sys2Proof/Machine/Operations.lean ====
section
/-! DEFINITION. SEND, QUERY and WAIT_READY in the spec's operation form (spec/42_command_engine.md R99 to R101), which the step
relation must agree with (R120), and the pseudo-operations SEND_TO and QUERY_TO (spec/30_encoding.md R80). The operation form moves
only the boundary of the state (answers, draws, trace); it answers the operation's result and the state after its transactions. -/

namespace Sys2Proof.Machine

/-- R101: WAIT_READY with `n` polls left before the bound. -/
def waitReady : Nat → State → Result EngineError StatusByte × State
  | 0, s => (.err .timeout, s)
  | n + 1, s =>
    let t := s.afterRead regStatus 1
    match s.readOutcome 1 with
    | .err e => (.err (.transport e), t)
    | .ok bs =>
      let st := decodeStatus (firstByte bs)
      if st.busy then waitReady n t
      else if st.busFault then (.err .busFault, t)
      else (.ok st, t)

/-- R99, R100: the part SEND and QUERY share, the command write and the ready-wait. -/
def issueAndWait (c : DaliCommand) (s : State) : Result EngineError StatusByte × State :=
  let t := s.afterWrite regCommand (commandPayload c)
  match s.writeOutcome with
  | .err e => (.err (.transport e), t)
  | .ok _ => waitReady s.maxPolls t

/-- R99: SEND in its operation form; the ready-time status is discarded (R116). -/
def sendOperation (c : DaliCommand) (s : State) : EngineResult × State :=
  match issueAndWait c s with
  | (.err e, t) => (.err e, t)
  | (.ok _, t) => (.ok .unit, t)

/-- R100: QUERY in its operation form. -/
def queryOperation (c : DaliCommand) (s : State) : EngineResult × State :=
  match issueAndWait c s with
  | (.err e, t) => (.err e, t)
  | (.ok st, t) =>
    let u := t.afterRead regCommand 1
    match t.readOutcome 1 with
    | .err e => (.err (.transport e), u)
    | .ok bs =>
      if st.frameError then (.err .frameError, u)
      else if st.overrun then (.err .overrun, u)
      else if !st.replyValid then (.err .noReply, u)
      else (.ok (.reply (firstByte bs)), u)

/-- R80: SEND_TO. A target the codec rejects ends it before SEND starts. -/
def execSendTo (sel : Selector) (target : Byte) (mode : Mode) (data : Byte) (s : State) : Outcome :=
  match encodeAddress sel target mode with
  | .err e => .next (s.give (.address (.err e)))
  | .ok a => execSend a data s

/-- R80: QUERY_TO. A target the codec rejects ends it before QUERY starts. -/
def execQueryTo (sel : Selector) (target : Byte) (mode : Mode) (data : Byte) (s : State) : Outcome :=
  match encodeAddress sel target mode with
  | .err e => .next (s.give (.address (.err e)))
  | .ok a => execQuery a data s

end Sys2Proof.Machine
end

