-- ==== Sys2Proof/Safety.lean ====
section
/-! DEFINITION. What a good state is, in the terms the statements use: the state the rules of spec/10_state.md and
spec/42_command_engine.md let a run reach. -/

namespace Sys2Proof.Machine

/-- R11: the parameters are well-formed. -/
abbrev State.ParametersOk (s : State) : Prop :=
  parametersWellFormed s.gatewayAddr s.maxPolls = true

/-- R21, R27, R154: every engine register but PHASE is unset. -/
abbrev State.RegistersUnset (s : State) : Prop :=
  s.op = none ∧ s.cmd = none ∧ s.hs = none ∧ s.polls = none ∧ s.captured = none ∧ s.result = none

/-- R99, R100, R142: the results an operation may have. SEND has no reply and none of the three query-specific errors. -/
def resultAllowed : Op → EngineResult → Bool
  | .send, .ok .unit => true
  | .send, .ok (.reply _) => false
  | .query, .ok .unit => false
  | .query, .ok (.reply _) => true
  | _, .err (.transport _) => true
  | _, .err .timeout => true
  | _, .err .busFault => true
  | .send, .err .noReply => false
  | .send, .err .frameError => false
  | .send, .err .overrun => false
  | .query, .err .noReply => true
  | .query, .err .frameError => true
  | .query, .err .overrun => true

/-- R111, R113: the results that only a ready-wait ended in Ready leads to. -/
def needsReady : EngineResult → Bool
  | .ok _ => true
  | .err .noReply => true
  | .err .frameError => true
  | .err .overrun => true
  | .err (.transport _) => false
  | .err .timeout => false
  | .err .busFault => false

/-- R21 to R27, phase by phase: which registers are set and how they agree. The Done arm says of HS and POLLS only what RESULT tells: it
leaves both open after a Transport error, and POLLS is bounded but may be unset beside a result of another kind than Timeout. -/
def State.EngineCoherent (s : State) : Prop :=
  match s.phase with
  | .idle => s.RegistersUnset
  | .issue =>
    s.op ≠ none ∧ s.cmd ≠ none ∧ s.hs = none ∧ s.polls = none ∧ s.captured = some none ∧ s.result = none
  | .wait =>
    s.op ≠ none ∧ s.cmd ≠ none ∧ s.hs = some .busy ∧ s.result = none ∧
      ∃ p c, s.polls = some p ∧ p ≤ s.maxPolls ∧ s.captured = some c ∧ (p = 0 ↔ c = none) ∧ ∀ st, c = some st → st.busy = true
  | .fetch =>
    s.op = some .query ∧ s.cmd ≠ none ∧ s.hs = some .ready ∧ s.result = none ∧
      ∃ p st, s.polls = some p ∧ 1 ≤ p ∧ p ≤ s.maxPolls ∧ s.captured = some (some st) ∧ hsClass st = .ready
  | .done =>
    s.cmd ≠ none ∧ s.captured ≠ none ∧ (∀ p, s.polls = some p → p ≤ s.maxPolls) ∧
      ∃ o r, s.op = some o ∧ s.result = some r ∧ resultAllowed o r = true ∧
        (needsReady r = true → s.hs = some .ready ∧ ∃ st, s.captured = some (some st) ∧ hsClass st = .ready) ∧
        (r = .err .timeout → s.hs = some .busy ∧ s.polls = some s.maxPolls) ∧
        (r = .err .busFault → s.hs = some .faulted ∧ ∃ st, s.captured = some (some st) ∧ hsClass st = .faulted)

/-- The invariant of the machine: well-formed parameters and coherent engine registers. -/
def State.Coherent (s : State) : Prop :=
  s.ParametersOk ∧ s.EngineCoherent

/-- `n` steps of the machine, stopping at the first fault or refusal. -/
def runSteps (n : Nat) (s : State) : Outcome :=
  Sys2Proof.core.run n s

/-- A safe run: one that stops in no fault within `n` steps. -/
def FaultFree (n : Nat) (s : State) : Prop :=
  ∀ f, runSteps n s ≠ .fault f

/-- R104: a status byte whose poll goes on (busy set). -/
abbrev busyByte (b : Byte) : Prop := b.getLsbD 6 = true

/-- R111, R132: a status byte whose poll ends the wait in Ready (busy and bus-fault clear). -/
abbrev readyByte (b : Byte) : Prop := b.getLsbD 6 = false ∧ b.getLsbD 7 = false

/-- R122: the event of the command write of a command, with its outcome. -/
def commandWriteEvent (s : State) (c : DaliCommand) (o : Answer) : Event :=
  ⟨s.gatewayAddr, .write regCommand [c.address, c.data], o⟩

/-- R122: the event of one status poll, with its outcome. -/
def pollEvent (s : State) (o : Answer) : Event :=
  ⟨s.gatewayAddr, .read regStatus 1, o⟩

/-- R122: the event of the reply read, with its outcome. -/
def replyEvent (s : State) (o : Answer) : Event :=
  ⟨s.gatewayAddr, .read regCommand 1, o⟩

end Sys2Proof.Machine
end

