-- ==== Sys2Proof/Certificates/Slice0/Obligations.lean ====
section
/-! DEFINITION. The statements for the provers. A statement marked [stated] formalises numbered rules of spec/; one marked [derived]
rests on the spec's sections, on an inference the spec marks as its own, or on a choice of the model that its log entry names.
An equation `exec i s = .next { s with … }` is the instruction's result and its whole frame: every field not named is unchanged. -/

open Sys2Proof Sys2Proof.Machine

/-! ### The Address Codec -/

/-- [stated R82] For a target of at most 63, ENCODE_ADDRESS under Short returns `(target << 1) | mode_bit`: bit 7 clear, bits 6:1 the
target, bit 0 the mode bit, and the shift loses nothing. Nothing of the state changes but what the caller has received. -/
def Obligations.ShortSelectorGivesAddressByte : Prop :=
  ∀ (s : State) (t : Byte) (m : Mode), t.toNat ≤ 63 →
    ∃ a : Byte,
      exec (.encodeAddress .short t m) s = .next { s with delivered := s.delivered ++ [.address (.ok a)] } ∧
      a = ((t <<< 1) ||| match m with | .command => 0x01#8 | .dapc => 0x00#8) ∧
      a.getLsbD 7 = false ∧ (a.extractLsb' 1 6).toNat = t.toNat ∧ a.getLsbD 0 = (m == .command) ∧
      (t <<< 1).toNat = 2 * t.toNat

/-- [stated R83] For a target of at most 15, ENCODE_ADDRESS under Group returns `0x80 | (target << 1) | mode_bit`: bit 7 set, bits 6:5
clear, bits 4:1 the target, bit 0 the mode bit. -/
def Obligations.GroupSelectorGivesAddressByte : Prop :=
  ∀ (s : State) (t : Byte) (m : Mode), t.toNat ≤ 15 →
    ∃ a : Byte,
      exec (.encodeAddress .group t m) s = .next { s with delivered := s.delivered ++ [.address (.ok a)] } ∧
      a = (0x80#8 ||| (t <<< 1) ||| match m with | .command => 0x01#8 | .dapc => 0x00#8) ∧
      a.getLsbD 7 = true ∧ a.extractLsb' 5 2 = 0 ∧ (a.extractLsb' 1 4).toNat = t.toNat ∧ a.getLsbD 0 = (m == .command)

/-- [stated R84] ENCODE_ADDRESS under Broadcast returns 0xFF for Command and 0xFE for DAPC, whatever the target; six ones in bits 6:1 and
an 8-bit 0xFF shifted left by 1 give that same byte. -/
def Obligations.BroadcastSelectorIgnoresTarget : Prop :=
  ∀ (s : State) (t : Byte) (m : Mode),
    ∃ a : Byte,
      exec (.encodeAddress .broadcast t m) s = .next { s with delivered := s.delivered ++ [.address (.ok a)] } ∧
      a = (match m with | .command => 0xFF#8 | .dapc => 0xFE#8) ∧
      (0x80#8 ||| (63#8 <<< 1) ||| match m with | .command => 0x01#8 | .dapc => 0x00#8) = a ∧
      (0x80#8 ||| (0xFF#8 <<< 1) ||| match m with | .command => 0x01#8 | .dapc => 0x00#8) = a

/-- [stated R85, R86] ENCODE_ADDRESS returns one result for its operands from every state, writes nothing else and issues no
transaction; the result is InvalidTarget exactly for Short above 63 and Group above 15. -/
def Obligations.InvalidTargetExactlyOutOfBounds : Prop :=
  ∀ (sel : Selector) (t : Byte) (m : Mode),
    ∃ r : Result CodecError Byte,
      (∀ s : State, exec (.encodeAddress sel t m) s = .next { s with delivered := s.delivered ++ [.address r] }) ∧
      (r = .err .invalidTarget ↔ (sel = .short ∧ 63 < t.toNat) ∨ (sel = .group ∧ 15 < t.toNat))

/-- [derived: 40_address_codec.md, "Range laws (for proofs), derived from rules R82 to R84"] The image of ENCODE_ADDRESS is 0x00 to 0x7F,
0x80 to 0x9F, 0xFE and 0xFF, 162 bytes; it is injective on its successful inputs but for Broadcast, whose inputs of one mode give one
byte; bit 0 of the result is the mode bit. -/
def Obligations.EncodeAddressRange : Prop :=
  (∀ b : Byte, (∃ sel t m, encodeAddress sel t m = .ok b) ↔
    (b.toNat ≤ 0x7F ∨ (0x80 ≤ b.toNat ∧ b.toNat ≤ 0x9F) ∨ b.toNat = 0xFE ∨ b.toNat = 0xFF)) ∧
  ((List.range 256).filter fun n => n ≤ 0x7F || (0x80 ≤ n && n ≤ 0x9F) || n == 0xFE || n == 0xFF).length = 162 ∧
  (∀ sel t m sel' t' m' b, encodeAddress sel t m = .ok b → encodeAddress sel' t' m' = .ok b →
    sel = sel' ∧ m = m' ∧ (sel ≠ .broadcast → t = t')) ∧
  (∀ t t' m, encodeAddress .broadcast t m = encodeAddress .broadcast t' m) ∧
  (∀ sel t m b, encodeAddress sel t m = .ok b → b.getLsbD 0 = (m == .command))

/-- [derived: 30_encoding.md section 2; the model's reading of the three address rows is log 10] The three address forms return the
bytes 0TTTTTTS, 100GGGGS and 1111111S from every state and change nothing else. -/
def Obligations.AddressFormsGiveTheirByte : Prop :=
  ∀ (s : State) (t : BitVec 6) (g : BitVec 4) (m : Mode),
    let bit := match m with | .command => 1 | .dapc => 0
    (∃ a : Byte, exec (.addrShort t m) s = .next { s with delivered := s.delivered ++ [.address (.ok a)] } ∧
      a.toNat = 2 * t.toNat + bit) ∧
    (∃ a : Byte, exec (.addrGroup g m) s = .next { s with delivered := s.delivered ++ [.address (.ok a)] } ∧
      a.toNat = 128 + 2 * g.toNat + bit) ∧
    (∃ a : Byte, exec (.addrBroadcast m) s = .next { s with delivered := s.delivered ++ [.address (.ok a)] } ∧
      a.toNat = 254 + bit)

/-- [derived: 30_encoding.md section 2, the classification the spec marks as derived] A byte classifies as no form exactly from 0xA0 to
0xFD, re-encoding a classified byte gives it back, and every byte ENCODE_ADDRESS returns is classified. -/
def Obligations.ClassificationAgreesWithCodec : Prop :=
  (∀ a : Byte, classify a = .notProduced ↔ 0xA0 ≤ a.toNat ∧ a.toNat ≤ 0xFD) ∧
  (∀ a b : Byte, (classify a).byte? = some b → a = b) ∧
  (∀ sel t m b, encodeAddress sel t m = .ok b → (classify b).byte? = some b)

/-! ### The Status Interpreter -/

/-- [stated R124, R125] DECODE_STATUS returns from every state, for every byte, the eight flags, each its own bit, and changes nothing else. -/
def Obligations.DecodeStatusReadsEachBit : Prop :=
  ∀ (s : State) (b : Byte),
    exec (.decodeStatus b) s = .next { s with
      delivered := s.delivered ++ [.status
        { oneByteReply := decide (b.toNat % 2 = 1)
          twoByteReply := decide (b.toNat / 2 % 2 = 1)
          frameTimeframeError := decide (b.toNat / 4 % 2 = 1)
          replyValid := decide (b.toNat / 8 % 2 = 1)
          frameError := decide (b.toNat / 16 % 2 = 1)
          overrun := decide (b.toNat / 32 % 2 = 1)
          busy := decide (b.toNat / 64 % 2 = 1)
          busFault := decide (b.toNat / 128 % 2 = 1) }] }

/-- [derived: 43_status_interpreter.md, "DECODE_STATUS is a bijection between bytes and StatusByte records", which the spec marks as
derived] Decoding and encoding a status are inverse to each other. -/
def Obligations.StatusByteRoundTrip : Prop :=
  (∀ b : Byte, encodeStatus (decodeStatus b) = b) ∧ (∀ f : StatusByte, decodeStatus (encodeStatus f) = f)

/-- [derived: 43_status_interpreter.md, the handshake class by byte value, which the spec marks as derived] Bytes with bit 6 set are Busy,
0x80 to 0xBF Faulted, 0x00 to 0x3F Ready. -/
def Obligations.HandshakeClassByByte : Prop :=
  ∀ b : Byte,
    (hsClass (decodeStatus b) = .busy ↔ b.toNat / 64 % 2 = 1) ∧
    (hsClass (decodeStatus b) = .faulted ↔ 0x80 ≤ b.toNat ∧ b.toNat ≤ 0xBF) ∧
    (hsClass (decodeStatus b) = .ready ↔ b.toNat ≤ 0x3F)

/-! ### The Register Transport -/

/-- [derived: 41_register_transport.md, the operation rules of WRITE_REGISTER and READ_REGISTER] In Idle, WRITE_REGISTER with a payload and
READ_REGISTER with a length of at least 1 perform exactly one transaction, for every register id and size, and return its outcome as it
is; no register of the core changes. -/
def Obligations.RawTransportCallIsOneTransaction : Prop :=
  ∀ (s : State) (reg : Byte), s.phase = .idle →
    (∀ payload : List Byte, payload ≠ [] →
      exec (.writeRegister reg payload) s = .next { s with
        answers := s.answers.tail
        draws := s.draws + 1
        trace := s.trace ++ [⟨s.gatewayAddr, .write reg payload, writeAnswer s.writeOutcome⟩]
        delivered := s.delivered ++ [.written s.writeOutcome] }) ∧
    (∀ n : Byte, n ≠ 0 →
      exec (.readRegister reg n) s = .next { s with
        answers := s.answers.tail
        draws := s.draws + 1
        trace := s.trace ++ [⟨s.gatewayAddr, .read reg n.toNat, s.readOutcome n.toNat⟩]
        delivered := s.delivered ++ [.bytesRead (s.readOutcome n.toNat)] })

/-- [derived: 41_register_transport.md, "A payload of length 0 is ill-formed and refused" and "A length of 0 is ill-formed and refused"; that
a zero-length call in flight, which the spec refuses for either reason in no order, is refused as of zero length is the model's choice:
log 21] Zero-length transactions are refused in every state, as of zero length. -/
def Obligations.ZeroLengthTransactionIsRefused : Prop :=
  ∀ (s : State) (reg : Byte),
    exec (.writeRegister reg []) s = .refused .zeroLength ∧ exec (.readRegister reg 0) s = .refused .zeroLength

/-- [derived: 20_memory.md section 2, the register map; 41_register_transport.md on raw calls; log 11] In Idle the three reads of the
register map perform R(0x00,1), R(0x01,1) and R(0xF0,6) and return the outcome; no register of the core changes. -/
def Obligations.RegisterMapReadsComplete : Prop :=
  ∀ s : State, s.phase = .idle →
    exec .rdStatus s = .next { s with
      answers := s.answers.tail, draws := s.draws + 1
      trace := s.trace ++ [⟨s.gatewayAddr, .read 0x00 1, s.readOutcome 1⟩]
      delivered := s.delivered ++ [.bytesRead (s.readOutcome 1)] } ∧
    exec .rdReply s = .next { s with
      answers := s.answers.tail, draws := s.draws + 1
      trace := s.trace ++ [⟨s.gatewayAddr, .read 0x01 1, s.readOutcome 1⟩]
      delivered := s.delivered ++ [.bytesRead (s.readOutcome 1)] } ∧
    exec .rdSignature s = .next { s with
      answers := s.answers.tail, draws := s.draws + 1
      trace := s.trace ++ [⟨s.gatewayAddr, .read 0xF0 6, s.readOutcome 6⟩]
      delivered := s.delivered ++ [.bytesRead (s.readOutcome 6)] }

/-- [derived: 20_memory.md section 2, the register map; 41_register_transport.md on raw calls; log 11] In Idle the three writes of the
register map perform W(0x01,[a,d]), W(0x02,[b]) and W(0xFE,[b0,b1]) and return the outcome; no register of the core changes, and the
address the transport uses stays. -/
def Obligations.RegisterMapWritesComplete : Prop :=
  ∀ (s : State) (x y : Byte), s.phase = .idle →
    exec (.wrCommand x y) s = .next { s with
      answers := s.answers.tail, draws := s.draws + 1
      trace := s.trace ++ [⟨s.gatewayAddr, .write 0x01 [x, y], writeAnswer s.writeOutcome⟩]
      delivered := s.delivered ++ [.written s.writeOutcome] } ∧
    exec (.wrConfig x) s = .next { s with
      answers := s.answers.tail, draws := s.draws + 1
      trace := s.trace ++ [⟨s.gatewayAddr, .write 0x02 [x], writeAnswer s.writeOutcome⟩]
      delivered := s.delivered ++ [.written s.writeOutcome] } ∧
    exec (.wrI2cAddr x y) s = .next { s with
      answers := s.answers.tail, draws := s.draws + 1
      trace := s.trace ++ [⟨s.gatewayAddr, .write 0xFE [x, y], writeAnswer s.writeOutcome⟩]
      delivered := s.delivered ++ [.written s.writeOutcome] }

/-- [derived: 41_register_transport.md, raw calls only while PHASE is Idle; that the six gateway transaction rows, as instructions, are raw
calls is the model's reading: log 11] Every well-formed raw transport call, presented as WRITE_REGISTER, READ_REGISTER or one of those six
rows, is refused in another phase. -/
def Obligations.RawCallInFlightIsRefused : Prop :=
  ∀ (s : State) (i : Instr), s.phase ≠ .idle → i.wellFormed = true →
    ((∃ reg payload, i = .writeRegister reg payload) ∨ (∃ reg n, i = .readRegister reg n) ∨ i = .rdStatus ∨
      (∃ a d, i = .wrCommand a d) ∨ i = .rdReply ∨ (∃ b, i = .wrConfig b) ∨ i = .rdSignature ∨ (∃ b c, i = .wrI2cAddr b c)) →
    exec i s = .refused .operationInFlight

/-- [derived: 20_memory.md section 1, "A read of length n returns Ok b with len(b) = n, or Err e"; the answers in State are the model's own:
log 4] Every outcome of a transaction is possible, and a read that succeeds has the length asked for, whatever the environment is. -/
def Obligations.TransactionOutcomesAreFreeDraws : Prop :=
  (∀ (s : State) (n : Nat) (bs : List Byte), s.readOutcome n = .ok bs → bs.length = n) ∧
  (∀ (s : State) (bs : List Byte), ({ s with answers := [.ok bs] } : State).readOutcome bs.length = .ok bs) ∧
  (∀ (s : State) (n : Nat) (e : TransportError), ({ s with answers := [.err e] } : State).readOutcome n = .err e) ∧
  (∀ s : State, ({ s with answers := [.ok []] } : State).writeOutcome = .ok ()) ∧
  (∀ (s : State) (e : TransportError), ({ s with answers := [.err e] } : State).writeOutcome = .err e)

/-! ### The Command Engine, step by step -/

/-- [stated R105] In Idle, SEND and QUERY are accepted: OP, CMD and CAPTURED are loaded, PHASE becomes Issue, no transaction. -/
def Obligations.AcceptLoadsTheOperation : Prop :=
  ∀ (s : State) (a d : Byte), s.phase = .idle →
    exec (.send a d) s =
      .next { s with op := some .send, cmd := some ⟨a, d⟩, captured := some none, phase := .issue } ∧
    exec (.query a d) s =
      .next { s with op := some .query, cmd := some ⟨a, d⟩, captured := some none, phase := .issue }

/-- [stated R33] A SEND or QUERY presented while PHASE is not Idle is refused. -/
def Obligations.OperationInFlightIsRefused : Prop :=
  ∀ (s : State) (a d : Byte), s.phase ≠ .idle →
    exec (.send a d) s = .refused .operationInFlight ∧ exec (.query a d) s = .refused .operationInFlight

/-- [stated R106] In Issue the engine writes [CMD.address, CMD.data] to register 0x01; a failed write ends the operation with
Transport(e), a successful one starts the wait with HS Busy and POLLS 0. -/
def Obligations.IssueWritesTheCommand : Prop :=
  ∀ (s : State) (c : DaliCommand), s.ParametersOk → s.phase = .issue → s.cmd = some c →
    (∀ e, s.writeOutcome = .err e →
      step s = .next { s with
        answers := s.answers.tail, draws := s.draws + 1
        trace := s.trace ++ [⟨s.gatewayAddr, .write 0x01 [c.address, c.data], .err e⟩]
        result := some (.err (.transport e)), phase := .done }) ∧
    (s.writeOutcome = .ok () →
      step s = .next { s with
        answers := s.answers.tail, draws := s.draws + 1
        trace := s.trace ++ [⟨s.gatewayAddr, .write 0x01 [c.address, c.data], .ok []⟩]
        hs := some .busy, polls := some 0, phase := .wait })

/-- [stated R107, R109, R110, R111] In Wait below the bound the engine reads one byte of register 0x00. A failed read ends the operation
with POLLS unchanged. A byte read is counted and captured; then busy (bit 6) keeps the wait, else bus-fault (bit 7) ends it in BusFault,
else it is Ready: SEND is done, QUERY goes on to the reply. -/
def Obligations.PollActsOnTheStatus : Prop :=
  ∀ (s : State) (p : Nat), s.ParametersOk → s.phase = .wait → s.polls = some p → p < s.maxPolls →
    (∀ e, s.readOutcome 1 = .err e →
      step s = .next { s with
        answers := s.answers.tail, draws := s.draws + 1
        trace := s.trace ++ [⟨s.gatewayAddr, .read 0x00 1, .err e⟩]
        result := some (.err (.transport e)), phase := .done }) ∧
    (∀ bs, s.readOutcome 1 = .ok bs → ∃ b, bs = [b] ∧
      (b.getLsbD 6 = true →
        step s = .next { s with
          answers := s.answers.tail, draws := s.draws + 1
          trace := s.trace ++ [⟨s.gatewayAddr, .read 0x00 1, .ok [b]⟩]
          polls := some (p + 1), captured := some (some (decodeStatus b)) }) ∧
      (b.getLsbD 6 = false → b.getLsbD 7 = true →
        step s = .next { s with
          answers := s.answers.tail, draws := s.draws + 1
          trace := s.trace ++ [⟨s.gatewayAddr, .read 0x00 1, .ok [b]⟩]
          polls := some (p + 1), captured := some (some (decodeStatus b))
          hs := some .faulted, result := some (.err .busFault), phase := .done }) ∧
      (b.getLsbD 6 = false → b.getLsbD 7 = false → s.op = some .send →
        step s = .next { s with
          answers := s.answers.tail, draws := s.draws + 1
          trace := s.trace ++ [⟨s.gatewayAddr, .read 0x00 1, .ok [b]⟩]
          polls := some (p + 1), captured := some (some (decodeStatus b))
          hs := some .ready, result := some (.ok .unit), phase := .done }) ∧
      (b.getLsbD 6 = false → b.getLsbD 7 = false → s.op = some .query →
        step s = .next { s with
          answers := s.answers.tail, draws := s.draws + 1
          trace := s.trace ++ [⟨s.gatewayAddr, .read 0x00 1, .ok [b]⟩]
          polls := some (p + 1), captured := some (some (decodeStatus b))
          hs := some .ready, phase := .fetch }))

/-- [stated R108] In Wait at the bound the engine performs no transaction: RESULT is Err Timeout, PHASE is Done, HS stays. -/
def Obligations.BoundEndsTheWait : Prop :=
  ∀ s : State, s.ParametersOk → s.phase = .wait → s.polls = some s.maxPolls →
    step s = .next { s with result := some (.err .timeout), phase := .done }

/-- [stated R112, R113] In Fetch the engine reads one byte of register 0x01. A failed read is the result; else FrameError comes first, then
Overrun, then NoReply, and the byte is the reply exactly when replyValid is set and frameError and overrun are clear. PHASE is Done. -/
def Obligations.FetchInterpretsTheReply : Prop :=
  ∀ (s : State) (st : StatusByte), s.ParametersOk → s.phase = .fetch → s.captured = some (some st) →
    (∀ e, s.readOutcome 1 = .err e →
      step s = .next { s with
        answers := s.answers.tail, draws := s.draws + 1
        trace := s.trace ++ [⟨s.gatewayAddr, .read 0x01 1, .err e⟩]
        result := some (.err (.transport e)), phase := .done }) ∧
    (∀ bs, s.readOutcome 1 = .ok bs → ∃ v r, bs = [v] ∧
      step s = .next { s with
        answers := s.answers.tail, draws := s.draws + 1
        trace := s.trace ++ [⟨s.gatewayAddr, .read 0x01 1, .ok [v]⟩]
        result := some r, phase := .done } ∧
      (st.frameError = true → r = .err .frameError) ∧
      (st.frameError = false → st.overrun = true → r = .err .overrun) ∧
      (st.frameError = false → st.overrun = false → st.replyValid = false → r = .err .noReply) ∧
      (r = .ok (.reply v) ↔ st.replyValid = true ∧ st.frameError = false ∧ st.overrun = false))

/-- [stated R114] In Done the engine returns RESULT, every other register of R21 becomes unset, PHASE becomes Idle, no transaction. -/
def Obligations.DeliverReturnsToIdle : Prop :=
  ∀ (s : State) (r : EngineResult), s.ParametersOk → s.phase = .done → s.result = some r →
    step s = .next { s with
      delivered := s.delivered ++ [.engine r], phase := .idle
      op := none, cmd := none, hs := none, polls := none, captured := none, result := none }

/-- [stated R102] A poll that reads busy set keeps the wait whatever the other bits are: PHASE stays Wait and HS stays as it is, bus-fault
included. -/
def Obligations.BusyWinsOverBusFault : Prop :=
  ∀ (s : State) (p : Nat) (b : Byte) (rest : List Answer), s.ParametersOk → s.phase = .wait → s.polls = some p → p < s.maxPolls →
    s.answers = .ok [b] :: rest → b.getLsbD 6 = true →
    ∃ t, step s = .next t ∧ t.phase = .wait ∧ t.hs = s.hs ∧ t.result = s.result ∧ t.polls = some (p + 1)

/-- [stated R116] Two ready-time statuses with the same busy and bus-fault bits give SEND the same result, whatever their other bits; two
with the same frame-error, overrun and reply-valid flags give QUERY the same result, after the same one-byte reply read. -/
def Obligations.UnreadFlagsDoNotShow : Prop :=
  (∀ (s : State) (p : Nat) (b b' : Byte) (rest : List Answer), s.ParametersOk → s.phase = .wait → s.op = some .send →
    s.polls = some p → p < s.maxPolls → b.getLsbD 6 = b'.getLsbD 6 → b.getLsbD 7 = b'.getLsbD 7 →
    ∃ t t', step { s with answers := .ok [b] :: rest } = .next t ∧ step { s with answers := .ok [b'] :: rest } = .next t' ∧
      t'.phase = t.phase ∧ t'.result = t.result ∧ t'.hs = t.hs ∧ t'.polls = t.polls) ∧
  (∀ (s : State) (st st' : StatusByte), s.ParametersOk → s.phase = .fetch →
    st.frameError = st'.frameError → st.overrun = st'.overrun → st.replyValid = st'.replyValid →
    ∃ t, step { s with captured := some (some st) } = .next t ∧
      step { s with captured := some (some st') } = .next { t with captured := some (some st') } ∧
      t.phase = .done ∧ t.trace = s.trace ++ [⟨s.gatewayAddr, .read 0x01 1, s.readOutcome 1⟩])

/-- [derived: 10_state.md section 2, "a model reading an unset register faults"; log 7] A phase whose step reads an unset register faults
by that register's name. -/
def Obligations.UnsetRegisterReadFaults : Prop :=
  ∀ s : State, s.ParametersOk →
    (s.phase = .issue → s.cmd = none → step s = .fault (.unsetRegister .cmd)) ∧
    (s.phase = .wait → s.polls = none → step s = .fault (.unsetRegister .polls)) ∧
    (s.phase = .done → s.result = none → step s = .fault (.unsetRegister .result)) ∧
    (∀ v rest, s.phase = .fetch → s.captured = none → s.answers = .ok [v] :: rest →
      step s = .fault (.unsetRegister .captured)) ∧
    (∀ p b rest, s.phase = .wait → s.polls = some p → p < s.maxPolls → s.op = none → s.answers = .ok [b] :: rest →
      readyByte b → step s = .fault (.unsetRegister .op))

/-! ### Steps and decoding -/

/-- [derived: 30_encoding.md sections 6 and 7; the caller's calls in State are the model's own: log 1] In Idle, a step at a call that
decodes to a well-formed instruction is exec of that instruction, with the call presented and nothing else changed. -/
def Obligations.StepRunsTheDecodedCall : Prop :=
  ∀ (s : State) (c : Call) (rest : List Call) (i : Instr), s.ParametersOk → s.phase = .idle → s.pending = c :: rest →
    decode c = .ok i → i.wellFormed = true → step s = exec i { s with pending := rest }

/-- [derived: 70_reset_and_hazards.md section 1; log 1] In Idle with no call pending the core waits: the step changes nothing. -/
def Obligations.IdleWaitsForACall : Prop :=
  ∀ s : State, s.ParametersOk → s.phase = .idle → s.pending = [] → step s = .next s

/-- [derived: 30_encoding.md section 6, "Selectors 6 and 7 name no operation. A model refuses them. The operand enumerations are closed"; that
the selector is the lead byte and a Selector or Mode an operand byte is the model's layout: log 2] Calls whose lead byte is 6 or 7 are
refused, and so is an ENCODE_ADDRESS whose Selector or Mode byte names no member of the enumeration; the enumerations have three and two
members. -/
def Obligations.UnnamedSelectorsAreRefused : Prop :=
  (∀ (s : State) (lead : Byte) (operands : List Byte) (rest : List Call), s.ParametersOk → s.phase = .idle →
    (lead = 6 ∨ lead = 7) → s.pending = ⟨.operation, lead :: operands⟩ :: rest →
    step s = .refused (.undecodable .noSuchSelector)) ∧
  (∀ sel target mode : Byte, (2 < sel.toNat ∨ 1 < mode.toNat) →
    decode ⟨.operation, [0, sel, target, mode]⟩ = .error .notInEnumeration) ∧
  (∀ sel : Selector, sel = .short ∨ sel = .group ∨ sel = .broadcast) ∧ (∀ m : Mode, m = .command ∨ m = .dapc)

/-- [derived: 00_scope.md section 3, "A configuration with MAX_POLLS = 0 is ill-formed and the model refuses it" and the same of
GATEWAY_ADDR > 0x7F; the spec does not say at which point, and that construction and every step refuse is the model's reading: log 9] With
MAX_POLLS = 0, or with GATEWAY_ADDR above 0x7F, construction and every step are refused; any other construction gives its state. -/
def Obligations.IllFormedParametersAreRefused : Prop :=
  ∀ (s : State) (g : Byte) (m : Nat),
    (s.maxPolls = 0 ∨ 0x7F < s.gatewayAddr.toNat → step s = .refused .illFormedParameters) ∧
    (m = 0 ∨ 0x7F < g.toNat → construct g m = .refused .illFormedParameters) ∧
    (1 ≤ m → g.toNat ≤ 0x7F → construct g m = .next (State.constructed g m))

/-- [derived: 70_reset_and_hazards.md section 1; that State.reset takes the default 0x23 for GATEWAY_ADDR and some MAX_POLLS of at least 1,
where the spec gives the constructor's arguments, is the model's choice: log 8; that SEND and QUERY, as instructions, are their acceptance:
log 14] After any construction, and so after reset, PHASE is Idle, every other engine register is unset and the parameters are the
constructor's arguments; exec of SEND or QUERY at State.reset is the acceptance of that operation. -/
def Obligations.ResetLeavesTheEngineIdle : Prop :=
  (∀ g m, (State.constructed g m).phase = .idle ∧ (State.constructed g m).RegistersUnset ∧
    (State.constructed g m).gatewayAddr = g ∧ (State.constructed g m).maxPolls = m) ∧
  State.reset.phase = .idle ∧ State.reset.RegistersUnset ∧ State.reset.gatewayAddr = 0x23 ∧ 1 ≤ State.reset.maxPolls ∧
  (∀ a d : Byte, exec (.send a d) State.reset =
    .next { State.reset with op := some .send, cmd := some ⟨a, d⟩, captured := some none, phase := .issue }) ∧
  (∀ a d : Byte, exec (.query a d) State.reset =
    .next { State.reset with op := some .query, cmd := some ⟨a, d⟩, captured := some none, phase := .issue })

/-- [derived: 30_encoding.md sections 2, 5 and 6; the operand bytes are the model's layout: log 2] A few calls written out byte by byte
decode to the instructions they stand for. -/
def Obligations.SampleCallsDecode : Prop :=
  decode ⟨.operation, [0b00000000, 0x00, 0x05, 0x00]⟩ = .ok (.encodeAddress .short 5 .dapc) ∧
  decode ⟨.operation, [0b00000001, 0x01, 0x0A, 0xFE]⟩ = .ok (.writeRegister 0x01 [0x0A, 0xFE]) ∧
  decode ⟨.operation, [0b00000011, 0x0A, 0xFE]⟩ = .ok (.send 0x0A 0xFE) ∧
  decode ⟨.operation, [0b00000100, 0x07, 0xA0]⟩ = .ok (.query 0x07 0xA0) ∧
  decode ⟨.operation, [0b00000101, 0x40]⟩ = .ok (.decodeStatus 0x40) ∧
  decode ⟨.addressByte, [0b00001010]⟩ = .ok (.addrShort 5 .dapc) ∧
  decode ⟨.addressByte, [0b10011111]⟩ = .ok (.addrGroup 15 .command) ∧
  decode ⟨.addressByte, [0b11111110]⟩ = .ok (.addrBroadcast .dapc)

/-- [derived: 30_encoding.md; the layout is the model's where the spec gives none: log 2] Decoding the encoding of any well-formed
instruction gives it back, with every operand at every value. -/
def Obligations.DecodeEncodeAgree : Prop :=
  ∀ i : Instr, i.wellFormed = true → decode (encode i) = .ok i

/-- [derived: 30_encoding.md; log 2, log 23] Whatever the decoder reads is well-formed, and a call in the operation or address-byte format
has one meaning: encoding what it decodes to gives the call back. -/
def Obligations.DecodedCallsAreWellFormed : Prop :=
  ∀ (c : Call) (i : Instr), decode c = .ok i →
    i.wellFormed = true ∧ (c.format = .operation ∨ c.format = .addressByte → encode i = c)

/-! ### Whole-machine rules -/

/-- [derived: 10_state.md section 2; 70_reset_and_hazards.md section 1] The state after reset is coherent. -/
def Obligations.ResetIsCoherent : Prop :=
  State.reset.Coherent

/-- [derived: 10_state.md section 2 and 42_command_engine.md section 3] Every step from a coherent state leads to a coherent state. Coherent
says: the parameters are well-formed; in Idle every other engine register is unset; in Issue, Wait and Fetch exactly the registers the spec
sets are set; POLLS never exceeds MAX_POLLS; in Wait no poll has been made exactly when CAPTURED is None, and a captured status reads busy;
in Fetch it reads ready. In Done OP, CMD, CAPTURED and RESULT are set and RESULT is one its operation may have; Ok, NoReply, FrameError and
Overrun go with HS Ready and a ready status, BusFault with HS Faulted and a faulted status, Timeout with HS Busy and POLLS at the bound.
In Done it leaves HS and POLLS open otherwise, and it ties CAPTURED to no transaction of the trace. -/
def Obligations.StepKeepsCoherence : Prop :=
  ∀ s t : State, s.Coherent → step s = .next t → t.Coherent

/-- [derived: 10_state.md section 2, "it is never read while unset by any rule of this spec"] No run from a coherent state faults. -/
def Obligations.CoherentRunsNeverFault : Prop :=
  ∀ (n : Nat) (s : State), s.Coherent → FaultFree n s

/-- [stated R23] OP and CMD are what an accepted SEND or QUERY loads, and no step changes them until the engine returns to Idle. -/
def Obligations.OperationRegistersHold : Prop :=
  (∀ (s t : State) (a d : Byte), exec (.send a d) s = .next t → t.op = some .send ∧ t.cmd = some ⟨a, d⟩) ∧
  (∀ (s t : State) (a d : Byte), exec (.query a d) s = .next t → t.op = some .query ∧ t.cmd = some ⟨a, d⟩) ∧
  (∀ s t : State, s.phase ≠ .idle → step s = .next t → t.phase ≠ .idle → t.op = s.op ∧ t.cmd = s.cmd)

/-- [derived: 00_scope.md section 3, "A parameter is fixed when the core is constructed and does not change while it runs"; the pending calls
and the delivered results are the model's own: log 1, log 6] No step changes a parameter; a step takes at most one pending call and
returns at most one result. -/
def Obligations.ParametersNeverChange : Prop :=
  ∀ s t : State, step s = .next t →
    t.gatewayAddr = s.gatewayAddr ∧ t.maxPolls = s.maxPolls ∧
    (t.pending = s.pending ∨ ∃ c, s.pending = c :: t.pending) ∧
    (t.delivered = s.delivered ∨ ∃ r, t.delivered = s.delivered ++ [r])

/-- [derived: 20_memory.md sections 3 and 5, atomic transactions in program order] A step performs at most one transaction, at the gateway's
address, drawing one answer for it; transactions already made stay as they are. -/
def Obligations.OneTransactionPerStep : Prop :=
  ∀ s t : State, step s = .next t →
    (t.trace = s.trace ∧ t.answers = s.answers ∧ t.draws = s.draws) ∨
    (∃ tr o, t.trace = s.trace ++ [⟨s.gatewayAddr, tr, o⟩] ∧ t.answers = s.answers.tail ∧ t.draws = s.draws + 1)

/-- [derived: 20_memory.md section 1, the three kinds of transaction, which the spec marks as derived] While an operation is in flight the
only transactions are the 2-byte write of 0x01, the 1-byte read of 0x00 and the 1-byte read of 0x01. -/
def Obligations.EngineIssuesThreeKindsOfTransaction : Prop :=
  ∀ s t : State, s.phase ≠ .idle → step s = .next t →
    t.trace = s.trace ∨ ∃ ev : Event, t.trace = s.trace ++ [ev] ∧
      ((∃ a d, ev.transaction = .write 0x01 [a, d]) ∨ ev.transaction = .read 0x00 1 ∨ ev.transaction = .read 0x01 1)

/-- [derived: 10_state.md section 2, "Nothing of one operation is visible to the next"; the history in State is the model's own: log 6] What
a step does depends on nothing that earlier operations returned or performed: with any other history it does the same and adds the same. -/
def Obligations.HistoryDoesNotShow : Prop :=
  ∀ (s : State) (trace : List Event) (delivered : List CallResult),
    match step s with
    | .next t => ∃ events results, t.trace = s.trace ++ events ∧ t.delivered = s.delivered ++ results ∧
        step { s with trace := trace, delivered := delivered } =
          .next { t with trace := trace ++ events, delivered := delivered ++ results }
    | .fault f => step { s with trace := trace, delivered := delivered } = .fault f
    | .refused r => step { s with trace := trace, delivered := delivered } = .refused r

/-- [derived: 60_exceptions.md section 1, InvalidTarget "is raised only by ENCODE_ADDRESS"] Only ENCODE_ADDRESS returns InvalidTarget. -/
def Obligations.OnlyEncodeAddressIsInvalidTarget : Prop :=
  ∀ (s t : State), step s = .next t → t.delivered = s.delivered ++ [.address (.err .invalidTarget)] →
    ∃ c rest sel target mode, s.phase = .idle ∧ s.pending = c :: rest ∧ decode c = .ok (.encodeAddress sel target mode) ∧
      t = { s with pending := rest, delivered := s.delivered ++ [.address (.err .invalidTarget)] }

/-- [derived: 42_command_engine.md sections 1 and 3; 70_reset_and_hazards.md section 3, "A SEND or QUERY that completed with Ok leaves the
gateway not busy at its last poll"] From a coherent state, a step that returns an operation's result returns one the operation may have,
and when it is Ok the status in CAPTURED has busy and bus-fault clear. -/
def Obligations.DeliveredResultsAreAllowed : Prop :=
  ∀ (s t : State) (r : EngineResult), s.Coherent → step s = .next t → t.delivered = s.delivered ++ [.engine r] →
    ∃ o, s.op = some o ∧ s.result = some r ∧ resultAllowed o r = true ∧
      ((∃ v, r = .ok v) → ∃ st, s.captured = some (some st) ∧ st.busy = false ∧ st.busFault = false)

/-! ### Whole operations -/

/-- [derived: 42_command_engine.md section 4, "The step rules and the operation rules agree" and "an operation takes at most MAX_POLLS + 4
steps", which the spec marks as derived] From a coherent idle state whose next call is a SEND, within MAX_POLLS + 4 steps the machine is
idle again with the transactions and the result of the operation form, and nothing else changed. -/
def Obligations.SendStepsAgreeWithOperation : Prop :=
  ∀ (s : State) (c : Call) (rest : List Call) (a d : Byte), s.Coherent → s.phase = .idle → s.pending = c :: rest →
    decode c = .ok (.send a d) →
    let out := sendOperation ⟨a, d⟩ { s with pending := rest }
    ∃ k, k ≤ s.maxPolls + 4 ∧
      runSteps k s = .next { out.2 with delivered := s.delivered ++ [.engine out.1] }

/-- [derived: as the statement for SEND] The same for QUERY. -/
def Obligations.QueryStepsAgreeWithOperation : Prop :=
  ∀ (s : State) (c : Call) (rest : List Call) (a d : Byte), s.Coherent → s.phase = .idle → s.pending = c :: rest →
    decode c = .ok (.query a d) →
    let out := queryOperation ⟨a, d⟩ { s with pending := rest }
    ∃ k, k ≤ s.maxPolls + 4 ∧
      runSteps k s = .next { out.2 with delivered := s.delivered ++ [.engine out.1] }

/-- [derived: 42_command_engine.md section 4, the transaction trace of one operation and its length, which the spec marks as derived] SEND
issues the command write, then k polls, 0 ≤ k ≤ MAX_POLLS, k = 0 exactly when the write failed; it returns Timeout exactly when MAX_POLLS
polls all read busy. It moves nothing but the boundary of the state. -/
def Obligations.SendTraceShape : Prop :=
  ∀ (s : State) (c : DaliCommand), s.ParametersOk →
    let out := sendOperation c s
    ∃ (w : Answer) (polls : List Answer),
      out.2 = { s with
        answers := s.answers.drop (1 + polls.length), draws := s.draws + (1 + polls.length)
        trace := s.trace ++ commandWriteEvent s c w :: polls.map (pollEvent s) } ∧
      polls.length ≤ s.maxPolls ∧
      (polls = [] ↔ ∃ e, w = .err e) ∧
      (out.1 = .err .timeout ↔ polls.length = s.maxPolls ∧ ∀ o ∈ polls, ∃ b, o = .ok [b] ∧ busyByte b)

/-- [derived: as the statement for SEND] QUERY issues the command write, k polls and, exactly when the last poll read busy and bus-fault
clear, the one-byte reply read. -/
def Obligations.QueryTraceShape : Prop :=
  ∀ (s : State) (c : DaliCommand), s.ParametersOk →
    let out := queryOperation c s
    ∃ (w : Answer) (polls reply : List Answer),
      out.2 = { s with
        answers := s.answers.drop (1 + polls.length + reply.length), draws := s.draws + (1 + polls.length + reply.length)
        trace := s.trace ++ commandWriteEvent s c w :: polls.map (pollEvent s) ++ reply.map (replyEvent s) } ∧
      polls.length ≤ s.maxPolls ∧ reply.length ≤ 1 ∧
      (polls = [] ↔ ∃ e, w = .err e) ∧
      (reply.length = 1 ↔ ∃ b, polls.getLast? = some (.ok [b]) ∧ readyByte b) ∧
      (out.1 = .err .timeout ↔ polls.length = s.maxPolls ∧ ∀ o ∈ polls, ∃ b, o = .ok [b] ∧ busyByte b)

/-- [derived: 42_command_engine.md section 2, "send succeeds after exactly N+1 polls and returns success", in a rule the spec marks as derived]
If the write succeeds, N polls read busy and poll N+1 ≤ MAX_POLLS reads busy and bus-fault clear, then after exactly N+4 steps SEND has
returned Ok, with exactly N+1 status reads. -/
def Obligations.SendSucceedsAfterBusyPolls : Prop :=
  ∀ (s : State) (c : Call) (rest : List Call) (a d : Byte) (w busy : List Byte) (ready : Byte) (more : List Answer),
    s.Coherent → s.phase = .idle → s.pending = c :: rest → decode c = .ok (.send a d) →
    s.answers = .ok w :: (busy.map fun b => .ok [b]) ++ .ok [ready] :: more →
    (∀ b ∈ busy, busyByte b) → readyByte ready → busy.length + 1 ≤ s.maxPolls →
    runSteps (busy.length + 4) s = .next { s with
      pending := rest
      answers := more
      draws := s.draws + (busy.length + 2)
      trace := s.trace ++ commandWriteEvent s ⟨a, d⟩ (.ok []) :: (busy ++ [ready]).map fun b => pollEvent s (.ok [b])
      delivered := s.delivered ++ [.engine (.ok .unit)] }

/-- [derived: 42_command_engine.md section 2, "send returns EngineError::Timeout once the configured poll bound is reached", in a rule the spec
marks as derived] If the write succeeds and MAX_POLLS polls all read busy, then SEND and QUERY alike return Timeout after exactly
MAX_POLLS + 4 steps, with exactly MAX_POLLS status reads and no other. -/
def Obligations.EndlessBusyTimesOut : Prop :=
  ∀ (s : State) (c : Call) (rest : List Call) (a d : Byte) (w busy : List Byte) (more : List Answer),
    s.Coherent → s.phase = .idle → s.pending = c :: rest → (decode c = .ok (.send a d) ∨ decode c = .ok (.query a d)) →
    s.answers = .ok w :: (busy.map fun b => .ok [b]) ++ more →
    (∀ b ∈ busy, busyByte b) → busy.length = s.maxPolls →
    runSteps (s.maxPolls + 4) s = .next { s with
      pending := rest
      answers := more
      draws := s.draws + (s.maxPolls + 1)
      trace := s.trace ++ commandWriteEvent s ⟨a, d⟩ (.ok []) :: busy.map fun b => pollEvent s (.ok [b])
      delivered := s.delivered ++ [.engine (.err .timeout)] }

/-- [derived: 42_command_engine.md sections 1 and 3] If the write succeeds, N polls read busy, the next reads busy, bus-fault, frame-error and
overrun clear and reply-valid set, and the reply read gives v, then QUERY returns Ok v after exactly N+5 steps. -/
def Obligations.QueryReturnsTheReplyByte : Prop :=
  ∀ (s : State) (c : Call) (rest : List Call) (a d : Byte) (w busy : List Byte) (ready v : Byte) (more : List Answer),
    s.Coherent → s.phase = .idle → s.pending = c :: rest → decode c = .ok (.query a d) →
    s.answers = .ok w :: (busy.map fun b => .ok [b]) ++ .ok [ready] :: .ok [v] :: more →
    (∀ b ∈ busy, busyByte b) → readyByte ready →
    ready.getLsbD 3 = true → ready.getLsbD 4 = false → ready.getLsbD 5 = false → busy.length + 1 ≤ s.maxPolls →
    runSteps (busy.length + 5) s = .next { s with
      pending := rest
      answers := more
      draws := s.draws + (busy.length + 3)
      trace := s.trace ++ commandWriteEvent s ⟨a, d⟩ (.ok []) :: ((busy ++ [ready]).map fun b => pollEvent s (.ok [b])) ++
        [replyEvent s (.ok [v])]
      delivered := s.delivered ++ [.engine (.ok (.reply v))] }

/-- [derived: 30_encoding.md section 7, the pseudo-operations] SEND_TO and QUERY_TO of a target the codec rejects return InvalidTarget and
change nothing else; of any other target they are SEND and QUERY of the codec's byte. -/
def Obligations.PseudoOperationsExpand : Prop :=
  ∀ (s : State) (sel : Selector) (t : Byte) (m : Mode) (data : Byte),
    ((sel = .short ∧ 63 < t.toNat) ∨ (sel = .group ∧ 15 < t.toNat) →
      execSendTo sel t m data s = .next { s with delivered := s.delivered ++ [.address (.err .invalidTarget)] } ∧
      execQueryTo sel t m data s = .next { s with delivered := s.delivered ++ [.address (.err .invalidTarget)] }) ∧
    (∀ a, encodeAddress sel t m = .ok a →
      execSendTo sel t m data s = exec (.send a data) s ∧ execQueryTo sel t m data s = exec (.query a data) s)

/-- [derived: 60_exceptions.md section 1, the table of error kinds, whose numbers are the spec's own labels: log 27] The eight error kinds have
the codes 1 to 8, each its own. -/
def Obligations.ErrorCodesAreTheTable : Prop :=
  (CallResult.address (.err .invalidTarget)).errorCode? = some 1 ∧
  (let kinds : List EngineError := [.transport .nack, .transport .busTimeout, .busFault, .timeout, .noReply, .frameError, .overrun]
   kinds.map engineErrorCode = [2, 3, 4, 5, 6, 7, 8] ∧ ∀ e : EngineError, e ∈ kinds) ∧
  (∀ e : TransportError, (CallResult.written (.err e)).errorCode? = (CallResult.engine (.err (.transport e))).errorCode? ∧
    (CallResult.bytesRead (.err e)).errorCode? = (CallResult.engine (.err (.transport e))).errorCode?)
end

