-- ==== Sys2Proof/Laws/Codec.lean ====
section
/-! SUPPORT. Said once what the Address Codec and the operand bytes of a call can answer. -/

namespace Sys2Proof

open Sys2Proof.Machine

/-- R81: Short answers a byte up to the bound and InvalidTarget above it. -/
theorem encodeAddress_short (t : Byte) (m : Mode) :
    (t.toNat ≤ 63 ∧ encodeAddress .short t m = .ok (addressByte .short t m)) ∨
    (63 < t.toNat ∧ encodeAddress .short t m = .err .invalidTarget) := by
  by_cases h : t.toNat ≤ 63
  · exact .inl ⟨h, by simpa [encodeAddress, shortMax, BitVec.lt_def] using h⟩
  · exact .inr ⟨by omega, by simpa [encodeAddress, shortMax, BitVec.lt_def] using h⟩

/-- R81: Group answers a byte up to the bound and InvalidTarget above it. -/
theorem encodeAddress_group (t : Byte) (m : Mode) :
    (t.toNat ≤ 15 ∧ encodeAddress .group t m = .ok (addressByte .group t m)) ∨
    (15 < t.toNat ∧ encodeAddress .group t m = .err .invalidTarget) := by
  by_cases h : t.toNat ≤ 15
  · exact .inl ⟨h, by simpa [encodeAddress, groupMax, BitVec.lt_def] using h⟩
  · exact .inr ⟨by omega, by simpa [encodeAddress, groupMax, BitVec.lt_def] using h⟩

/-- A six-bit target is within Short's bound. -/
theorem encodeAddress_sixBits (t : BitVec 6) (m : Mode) :
    encodeAddress .short (t.zeroExtend 8) m = .ok (addressByte .short (t.zeroExtend 8) m) := by
  rcases encodeAddress_short (t.zeroExtend 8) m with ⟨-, h⟩ | ⟨h, -⟩
  · exact h
  · simp at h; omega

/-- A four-bit group is within Group's bound. -/
theorem encodeAddress_fourBits (g : BitVec 4) (m : Mode) :
    encodeAddress .group (g.zeroExtend 8) m = .ok (addressByte .group (g.zeroExtend 8) m) := by
  rcases encodeAddress_group (g.zeroExtend 8) m with ⟨-, h⟩ | ⟨h, -⟩
  · exact h
  · simp at h; omega

theorem selectorOf_selectorCode (s : Selector) : selectorOf (selectorCode s) = some s := by
  cases s <;> rfl

theorem modeOf_modeBit (m : Mode) : modeOf (modeBit m) = some m := by
  cases m <;> rfl

theorem selectorCode_of_selectorOf {b : Byte} {s : Selector} (h : selectorOf b = some s) : selectorCode s = b := by
  unfold selectorOf at h
  split at h
  · cases h; simp_all [selectorCode]
  · split at h
    · cases h; simp_all [selectorCode]
    · split at h
      · cases h; simp_all [selectorCode]
      · cases h

theorem modeBit_of_modeOf {b : Byte} {m : Mode} (h : modeOf b = some m) : modeBit m = b := by
  unfold modeOf at h
  split at h
  · cases h; simp_all [modeBit]
  · split at h
    · cases h; simp_all [modeBit]
    · cases h

/-- A length of at least 1 comes back from its length byte. -/
theorem lengthOf_lengthCode {n : Byte} (h : n ≠ 0) : lengthOf (lengthCode n) = .ok n := by
  revert n; decide

/-- A length byte stands for a length of at least 1 and is that length's byte. -/
theorem lengthCode_of_lengthOf {b n : Byte} (h : lengthOf b = .ok n) : n ≠ 0 ∧ lengthCode n = b := by
  have key : ∀ b : Byte, b ≠ 0xFF → b + 1 ≠ 0 ∧ lengthCode (b + 1) = b := by decide
  unfold lengthOf at h
  split at h
  · cases h
  · cases h; exact key b ‹_›

end Sys2Proof
end

