-- ==== Sys2Proof/Laws/State.lean ====
section
/-! SUPPORT. What each update of the state leaves in each field: one lemma per field per update, so that no proof unfolds an update. -/

namespace Sys2Proof.Machine

variable (s : State)

/-! ### State.perform -/

@[simp] theorem State.perform_gatewayAddr (tr : Transaction) (o : Answer) : (s.perform tr o).gatewayAddr = s.gatewayAddr := rfl
@[simp] theorem State.perform_maxPolls (tr : Transaction) (o : Answer) : (s.perform tr o).maxPolls = s.maxPolls := rfl
@[simp] theorem State.perform_phase (tr : Transaction) (o : Answer) : (s.perform tr o).phase = s.phase := rfl
@[simp] theorem State.perform_op (tr : Transaction) (o : Answer) : (s.perform tr o).op = s.op := rfl
@[simp] theorem State.perform_cmd (tr : Transaction) (o : Answer) : (s.perform tr o).cmd = s.cmd := rfl
@[simp] theorem State.perform_hs (tr : Transaction) (o : Answer) : (s.perform tr o).hs = s.hs := rfl
@[simp] theorem State.perform_polls (tr : Transaction) (o : Answer) : (s.perform tr o).polls = s.polls := rfl
@[simp] theorem State.perform_captured (tr : Transaction) (o : Answer) : (s.perform tr o).captured = s.captured := rfl
@[simp] theorem State.perform_result (tr : Transaction) (o : Answer) : (s.perform tr o).result = s.result := rfl
@[simp] theorem State.perform_pending (tr : Transaction) (o : Answer) : (s.perform tr o).pending = s.pending := rfl
@[simp] theorem State.perform_delivered (tr : Transaction) (o : Answer) : (s.perform tr o).delivered = s.delivered := rfl
@[simp] theorem State.perform_answers (tr : Transaction) (o : Answer) : (s.perform tr o).answers = s.answers.tail := rfl
@[simp] theorem State.perform_draws (tr : Transaction) (o : Answer) : (s.perform tr o).draws = s.draws + 1 := rfl
@[simp] theorem State.perform_trace (tr : Transaction) (o : Answer) : (s.perform tr o).trace = s.trace ++ [⟨s.gatewayAddr, tr, o⟩] := rfl

/-! ### State.afterWrite -/

@[simp] theorem State.afterWrite_gatewayAddr (reg : Byte) (payload : List Byte) : (s.afterWrite reg payload).gatewayAddr = s.gatewayAddr := rfl
@[simp] theorem State.afterWrite_maxPolls (reg : Byte) (payload : List Byte) : (s.afterWrite reg payload).maxPolls = s.maxPolls := rfl
@[simp] theorem State.afterWrite_phase (reg : Byte) (payload : List Byte) : (s.afterWrite reg payload).phase = s.phase := rfl
@[simp] theorem State.afterWrite_op (reg : Byte) (payload : List Byte) : (s.afterWrite reg payload).op = s.op := rfl
@[simp] theorem State.afterWrite_cmd (reg : Byte) (payload : List Byte) : (s.afterWrite reg payload).cmd = s.cmd := rfl
@[simp] theorem State.afterWrite_hs (reg : Byte) (payload : List Byte) : (s.afterWrite reg payload).hs = s.hs := rfl
@[simp] theorem State.afterWrite_polls (reg : Byte) (payload : List Byte) : (s.afterWrite reg payload).polls = s.polls := rfl
@[simp] theorem State.afterWrite_captured (reg : Byte) (payload : List Byte) : (s.afterWrite reg payload).captured = s.captured := rfl
@[simp] theorem State.afterWrite_result (reg : Byte) (payload : List Byte) : (s.afterWrite reg payload).result = s.result := rfl
@[simp] theorem State.afterWrite_pending (reg : Byte) (payload : List Byte) : (s.afterWrite reg payload).pending = s.pending := rfl
@[simp] theorem State.afterWrite_delivered (reg : Byte) (payload : List Byte) : (s.afterWrite reg payload).delivered = s.delivered := rfl
@[simp] theorem State.afterWrite_answers (reg : Byte) (payload : List Byte) : (s.afterWrite reg payload).answers = s.answers.tail := rfl
@[simp] theorem State.afterWrite_draws (reg : Byte) (payload : List Byte) : (s.afterWrite reg payload).draws = s.draws + 1 := rfl
@[simp] theorem State.afterWrite_trace (reg : Byte) (payload : List Byte) : (s.afterWrite reg payload).trace = s.trace ++ [⟨s.gatewayAddr, .write reg payload, writeAnswer s.writeOutcome⟩] := rfl

/-! ### State.afterRead -/

@[simp] theorem State.afterRead_gatewayAddr (reg : Byte) (n : Nat) : (s.afterRead reg n).gatewayAddr = s.gatewayAddr := rfl
@[simp] theorem State.afterRead_maxPolls (reg : Byte) (n : Nat) : (s.afterRead reg n).maxPolls = s.maxPolls := rfl
@[simp] theorem State.afterRead_phase (reg : Byte) (n : Nat) : (s.afterRead reg n).phase = s.phase := rfl
@[simp] theorem State.afterRead_op (reg : Byte) (n : Nat) : (s.afterRead reg n).op = s.op := rfl
@[simp] theorem State.afterRead_cmd (reg : Byte) (n : Nat) : (s.afterRead reg n).cmd = s.cmd := rfl
@[simp] theorem State.afterRead_hs (reg : Byte) (n : Nat) : (s.afterRead reg n).hs = s.hs := rfl
@[simp] theorem State.afterRead_polls (reg : Byte) (n : Nat) : (s.afterRead reg n).polls = s.polls := rfl
@[simp] theorem State.afterRead_captured (reg : Byte) (n : Nat) : (s.afterRead reg n).captured = s.captured := rfl
@[simp] theorem State.afterRead_result (reg : Byte) (n : Nat) : (s.afterRead reg n).result = s.result := rfl
@[simp] theorem State.afterRead_pending (reg : Byte) (n : Nat) : (s.afterRead reg n).pending = s.pending := rfl
@[simp] theorem State.afterRead_delivered (reg : Byte) (n : Nat) : (s.afterRead reg n).delivered = s.delivered := rfl
@[simp] theorem State.afterRead_answers (reg : Byte) (n : Nat) : (s.afterRead reg n).answers = s.answers.tail := rfl
@[simp] theorem State.afterRead_draws (reg : Byte) (n : Nat) : (s.afterRead reg n).draws = s.draws + 1 := rfl
@[simp] theorem State.afterRead_trace (reg : Byte) (n : Nat) : (s.afterRead reg n).trace = s.trace ++ [⟨s.gatewayAddr, .read reg n, s.readOutcome n⟩] := rfl

/-! ### State.give -/

@[simp] theorem State.give_gatewayAddr (r : CallResult) : (s.give r).gatewayAddr = s.gatewayAddr := rfl
@[simp] theorem State.give_maxPolls (r : CallResult) : (s.give r).maxPolls = s.maxPolls := rfl
@[simp] theorem State.give_phase (r : CallResult) : (s.give r).phase = s.phase := rfl
@[simp] theorem State.give_op (r : CallResult) : (s.give r).op = s.op := rfl
@[simp] theorem State.give_cmd (r : CallResult) : (s.give r).cmd = s.cmd := rfl
@[simp] theorem State.give_hs (r : CallResult) : (s.give r).hs = s.hs := rfl
@[simp] theorem State.give_polls (r : CallResult) : (s.give r).polls = s.polls := rfl
@[simp] theorem State.give_captured (r : CallResult) : (s.give r).captured = s.captured := rfl
@[simp] theorem State.give_result (r : CallResult) : (s.give r).result = s.result := rfl
@[simp] theorem State.give_pending (r : CallResult) : (s.give r).pending = s.pending := rfl
@[simp] theorem State.give_delivered (r : CallResult) : (s.give r).delivered = s.delivered ++ [r] := rfl
@[simp] theorem State.give_answers (r : CallResult) : (s.give r).answers = s.answers := rfl
@[simp] theorem State.give_draws (r : CallResult) : (s.give r).draws = s.draws := rfl
@[simp] theorem State.give_trace (r : CallResult) : (s.give r).trace = s.trace := rfl

/-! ### State.accept -/

@[simp] theorem State.accept_gatewayAddr (o : Op) (c : DaliCommand) : (s.accept o c).gatewayAddr = s.gatewayAddr := rfl
@[simp] theorem State.accept_maxPolls (o : Op) (c : DaliCommand) : (s.accept o c).maxPolls = s.maxPolls := rfl
@[simp] theorem State.accept_phase (o : Op) (c : DaliCommand) : (s.accept o c).phase = .issue := rfl
@[simp] theorem State.accept_op (o : Op) (c : DaliCommand) : (s.accept o c).op = some o := rfl
@[simp] theorem State.accept_cmd (o : Op) (c : DaliCommand) : (s.accept o c).cmd = some c := rfl
@[simp] theorem State.accept_hs (o : Op) (c : DaliCommand) : (s.accept o c).hs = s.hs := rfl
@[simp] theorem State.accept_polls (o : Op) (c : DaliCommand) : (s.accept o c).polls = s.polls := rfl
@[simp] theorem State.accept_captured (o : Op) (c : DaliCommand) : (s.accept o c).captured = some none := rfl
@[simp] theorem State.accept_result (o : Op) (c : DaliCommand) : (s.accept o c).result = s.result := rfl
@[simp] theorem State.accept_pending (o : Op) (c : DaliCommand) : (s.accept o c).pending = s.pending := rfl
@[simp] theorem State.accept_delivered (o : Op) (c : DaliCommand) : (s.accept o c).delivered = s.delivered := rfl
@[simp] theorem State.accept_answers (o : Op) (c : DaliCommand) : (s.accept o c).answers = s.answers := rfl
@[simp] theorem State.accept_draws (o : Op) (c : DaliCommand) : (s.accept o c).draws = s.draws := rfl
@[simp] theorem State.accept_trace (o : Op) (c : DaliCommand) : (s.accept o c).trace = s.trace := rfl

/-! ### State.startWait -/

@[simp] theorem State.startWait_gatewayAddr : s.startWait.gatewayAddr = s.gatewayAddr := rfl
@[simp] theorem State.startWait_maxPolls : s.startWait.maxPolls = s.maxPolls := rfl
@[simp] theorem State.startWait_phase : s.startWait.phase = .wait := rfl
@[simp] theorem State.startWait_op : s.startWait.op = s.op := rfl
@[simp] theorem State.startWait_cmd : s.startWait.cmd = s.cmd := rfl
@[simp] theorem State.startWait_hs : s.startWait.hs = some .busy := rfl
@[simp] theorem State.startWait_polls : s.startWait.polls = some 0 := rfl
@[simp] theorem State.startWait_captured : s.startWait.captured = s.captured := rfl
@[simp] theorem State.startWait_result : s.startWait.result = s.result := rfl
@[simp] theorem State.startWait_pending : s.startWait.pending = s.pending := rfl
@[simp] theorem State.startWait_delivered : s.startWait.delivered = s.delivered := rfl
@[simp] theorem State.startWait_answers : s.startWait.answers = s.answers := rfl
@[simp] theorem State.startWait_draws : s.startWait.draws = s.draws := rfl
@[simp] theorem State.startWait_trace : s.startWait.trace = s.trace := rfl

/-! ### State.countPoll -/

@[simp] theorem State.countPoll_gatewayAddr (p : Nat) (st : StatusByte) : (s.countPoll p st).gatewayAddr = s.gatewayAddr := rfl
@[simp] theorem State.countPoll_maxPolls (p : Nat) (st : StatusByte) : (s.countPoll p st).maxPolls = s.maxPolls := rfl
@[simp] theorem State.countPoll_phase (p : Nat) (st : StatusByte) : (s.countPoll p st).phase = s.phase := rfl
@[simp] theorem State.countPoll_op (p : Nat) (st : StatusByte) : (s.countPoll p st).op = s.op := rfl
@[simp] theorem State.countPoll_cmd (p : Nat) (st : StatusByte) : (s.countPoll p st).cmd = s.cmd := rfl
@[simp] theorem State.countPoll_hs (p : Nat) (st : StatusByte) : (s.countPoll p st).hs = s.hs := rfl
@[simp] theorem State.countPoll_polls (p : Nat) (st : StatusByte) : (s.countPoll p st).polls = some (p + 1) := rfl
@[simp] theorem State.countPoll_captured (p : Nat) (st : StatusByte) : (s.countPoll p st).captured = some (some st) := rfl
@[simp] theorem State.countPoll_result (p : Nat) (st : StatusByte) : (s.countPoll p st).result = s.result := rfl
@[simp] theorem State.countPoll_pending (p : Nat) (st : StatusByte) : (s.countPoll p st).pending = s.pending := rfl
@[simp] theorem State.countPoll_delivered (p : Nat) (st : StatusByte) : (s.countPoll p st).delivered = s.delivered := rfl
@[simp] theorem State.countPoll_answers (p : Nat) (st : StatusByte) : (s.countPoll p st).answers = s.answers := rfl
@[simp] theorem State.countPoll_draws (p : Nat) (st : StatusByte) : (s.countPoll p st).draws = s.draws := rfl
@[simp] theorem State.countPoll_trace (p : Nat) (st : StatusByte) : (s.countPoll p st).trace = s.trace := rfl

/-! ### State.setHs -/

@[simp] theorem State.setHs_gatewayAddr (h : Handshake) : (s.setHs h).gatewayAddr = s.gatewayAddr := rfl
@[simp] theorem State.setHs_maxPolls (h : Handshake) : (s.setHs h).maxPolls = s.maxPolls := rfl
@[simp] theorem State.setHs_phase (h : Handshake) : (s.setHs h).phase = s.phase := rfl
@[simp] theorem State.setHs_op (h : Handshake) : (s.setHs h).op = s.op := rfl
@[simp] theorem State.setHs_cmd (h : Handshake) : (s.setHs h).cmd = s.cmd := rfl
@[simp] theorem State.setHs_hs (h : Handshake) : (s.setHs h).hs = some h := rfl
@[simp] theorem State.setHs_polls (h : Handshake) : (s.setHs h).polls = s.polls := rfl
@[simp] theorem State.setHs_captured (h : Handshake) : (s.setHs h).captured = s.captured := rfl
@[simp] theorem State.setHs_result (h : Handshake) : (s.setHs h).result = s.result := rfl
@[simp] theorem State.setHs_pending (h : Handshake) : (s.setHs h).pending = s.pending := rfl
@[simp] theorem State.setHs_delivered (h : Handshake) : (s.setHs h).delivered = s.delivered := rfl
@[simp] theorem State.setHs_answers (h : Handshake) : (s.setHs h).answers = s.answers := rfl
@[simp] theorem State.setHs_draws (h : Handshake) : (s.setHs h).draws = s.draws := rfl
@[simp] theorem State.setHs_trace (h : Handshake) : (s.setHs h).trace = s.trace := rfl

/-! ### State.toFetch -/

@[simp] theorem State.toFetch_gatewayAddr : s.toFetch.gatewayAddr = s.gatewayAddr := rfl
@[simp] theorem State.toFetch_maxPolls : s.toFetch.maxPolls = s.maxPolls := rfl
@[simp] theorem State.toFetch_phase : s.toFetch.phase = .fetch := rfl
@[simp] theorem State.toFetch_op : s.toFetch.op = s.op := rfl
@[simp] theorem State.toFetch_cmd : s.toFetch.cmd = s.cmd := rfl
@[simp] theorem State.toFetch_hs : s.toFetch.hs = s.hs := rfl
@[simp] theorem State.toFetch_polls : s.toFetch.polls = s.polls := rfl
@[simp] theorem State.toFetch_captured : s.toFetch.captured = s.captured := rfl
@[simp] theorem State.toFetch_result : s.toFetch.result = s.result := rfl
@[simp] theorem State.toFetch_pending : s.toFetch.pending = s.pending := rfl
@[simp] theorem State.toFetch_delivered : s.toFetch.delivered = s.delivered := rfl
@[simp] theorem State.toFetch_answers : s.toFetch.answers = s.answers := rfl
@[simp] theorem State.toFetch_draws : s.toFetch.draws = s.draws := rfl
@[simp] theorem State.toFetch_trace : s.toFetch.trace = s.trace := rfl

/-! ### State.finish -/

@[simp] theorem State.finish_gatewayAddr (r : EngineResult) : (s.finish r).gatewayAddr = s.gatewayAddr := rfl
@[simp] theorem State.finish_maxPolls (r : EngineResult) : (s.finish r).maxPolls = s.maxPolls := rfl
@[simp] theorem State.finish_phase (r : EngineResult) : (s.finish r).phase = .done := rfl
@[simp] theorem State.finish_op (r : EngineResult) : (s.finish r).op = s.op := rfl
@[simp] theorem State.finish_cmd (r : EngineResult) : (s.finish r).cmd = s.cmd := rfl
@[simp] theorem State.finish_hs (r : EngineResult) : (s.finish r).hs = s.hs := rfl
@[simp] theorem State.finish_polls (r : EngineResult) : (s.finish r).polls = s.polls := rfl
@[simp] theorem State.finish_captured (r : EngineResult) : (s.finish r).captured = s.captured := rfl
@[simp] theorem State.finish_result (r : EngineResult) : (s.finish r).result = some r := rfl
@[simp] theorem State.finish_pending (r : EngineResult) : (s.finish r).pending = s.pending := rfl
@[simp] theorem State.finish_delivered (r : EngineResult) : (s.finish r).delivered = s.delivered := rfl
@[simp] theorem State.finish_answers (r : EngineResult) : (s.finish r).answers = s.answers := rfl
@[simp] theorem State.finish_draws (r : EngineResult) : (s.finish r).draws = s.draws := rfl
@[simp] theorem State.finish_trace (r : EngineResult) : (s.finish r).trace = s.trace := rfl

/-! ### State.raise -/

@[simp] theorem State.raise_gatewayAddr (e : EngineError) : (s.raise e).gatewayAddr = s.gatewayAddr := rfl
@[simp] theorem State.raise_maxPolls (e : EngineError) : (s.raise e).maxPolls = s.maxPolls := rfl
@[simp] theorem State.raise_phase (e : EngineError) : (s.raise e).phase = .done := rfl
@[simp] theorem State.raise_op (e : EngineError) : (s.raise e).op = s.op := rfl
@[simp] theorem State.raise_cmd (e : EngineError) : (s.raise e).cmd = s.cmd := rfl
@[simp] theorem State.raise_hs (e : EngineError) : (s.raise e).hs = s.hs := rfl
@[simp] theorem State.raise_polls (e : EngineError) : (s.raise e).polls = s.polls := rfl
@[simp] theorem State.raise_captured (e : EngineError) : (s.raise e).captured = s.captured := rfl
@[simp] theorem State.raise_result (e : EngineError) : (s.raise e).result = some (.err e) := rfl
@[simp] theorem State.raise_pending (e : EngineError) : (s.raise e).pending = s.pending := rfl
@[simp] theorem State.raise_delivered (e : EngineError) : (s.raise e).delivered = s.delivered := rfl
@[simp] theorem State.raise_answers (e : EngineError) : (s.raise e).answers = s.answers := rfl
@[simp] theorem State.raise_draws (e : EngineError) : (s.raise e).draws = s.draws := rfl
@[simp] theorem State.raise_trace (e : EngineError) : (s.raise e).trace = s.trace := rfl

/-! ### State.toIdle -/

@[simp] theorem State.toIdle_gatewayAddr : s.toIdle.gatewayAddr = s.gatewayAddr := rfl
@[simp] theorem State.toIdle_maxPolls : s.toIdle.maxPolls = s.maxPolls := rfl
@[simp] theorem State.toIdle_phase : s.toIdle.phase = .idle := rfl
@[simp] theorem State.toIdle_op : s.toIdle.op = none := rfl
@[simp] theorem State.toIdle_cmd : s.toIdle.cmd = none := rfl
@[simp] theorem State.toIdle_hs : s.toIdle.hs = none := rfl
@[simp] theorem State.toIdle_polls : s.toIdle.polls = none := rfl
@[simp] theorem State.toIdle_captured : s.toIdle.captured = none := rfl
@[simp] theorem State.toIdle_result : s.toIdle.result = none := rfl
@[simp] theorem State.toIdle_pending : s.toIdle.pending = s.pending := rfl
@[simp] theorem State.toIdle_delivered : s.toIdle.delivered = s.delivered := rfl
@[simp] theorem State.toIdle_answers : s.toIdle.answers = s.answers := rfl
@[simp] theorem State.toIdle_draws : s.toIdle.draws = s.draws := rfl
@[simp] theorem State.toIdle_trace : s.toIdle.trace = s.trace := rfl

/-! ### State.deliver -/

@[simp] theorem State.deliver_gatewayAddr (r : EngineResult) : (s.deliver r).gatewayAddr = s.gatewayAddr := rfl
@[simp] theorem State.deliver_maxPolls (r : EngineResult) : (s.deliver r).maxPolls = s.maxPolls := rfl
@[simp] theorem State.deliver_phase (r : EngineResult) : (s.deliver r).phase = .idle := rfl
@[simp] theorem State.deliver_op (r : EngineResult) : (s.deliver r).op = none := rfl
@[simp] theorem State.deliver_cmd (r : EngineResult) : (s.deliver r).cmd = none := rfl
@[simp] theorem State.deliver_hs (r : EngineResult) : (s.deliver r).hs = none := rfl
@[simp] theorem State.deliver_polls (r : EngineResult) : (s.deliver r).polls = none := rfl
@[simp] theorem State.deliver_captured (r : EngineResult) : (s.deliver r).captured = none := rfl
@[simp] theorem State.deliver_result (r : EngineResult) : (s.deliver r).result = none := rfl
@[simp] theorem State.deliver_pending (r : EngineResult) : (s.deliver r).pending = s.pending := rfl
@[simp] theorem State.deliver_delivered (r : EngineResult) : (s.deliver r).delivered = s.delivered ++ [.engine r] := rfl
@[simp] theorem State.deliver_answers (r : EngineResult) : (s.deliver r).answers = s.answers := rfl
@[simp] theorem State.deliver_draws (r : EngineResult) : (s.deliver r).draws = s.draws := rfl
@[simp] theorem State.deliver_trace (r : EngineResult) : (s.deliver r).trace = s.trace := rfl

/-! ### State.present -/

@[simp] theorem State.present_gatewayAddr (c : Call) : (s.present c).gatewayAddr = s.gatewayAddr := rfl
@[simp] theorem State.present_maxPolls (c : Call) : (s.present c).maxPolls = s.maxPolls := rfl
@[simp] theorem State.present_phase (c : Call) : (s.present c).phase = .idle := rfl
@[simp] theorem State.present_op (c : Call) : (s.present c).op = none := rfl
@[simp] theorem State.present_cmd (c : Call) : (s.present c).cmd = none := rfl
@[simp] theorem State.present_hs (c : Call) : (s.present c).hs = none := rfl
@[simp] theorem State.present_polls (c : Call) : (s.present c).polls = none := rfl
@[simp] theorem State.present_captured (c : Call) : (s.present c).captured = none := rfl
@[simp] theorem State.present_result (c : Call) : (s.present c).result = none := rfl
@[simp] theorem State.present_pending (c : Call) : (s.present c).pending = c :: s.pending := rfl
@[simp] theorem State.present_delivered (c : Call) : (s.present c).delivered = s.delivered := rfl
@[simp] theorem State.present_answers (c : Call) : (s.present c).answers = s.answers := rfl
@[simp] theorem State.present_draws (c : Call) : (s.present c).draws = s.draws := rfl
@[simp] theorem State.present_trace (c : Call) : (s.present c).trace = s.trace := rfl

end Sys2Proof.Machine
end

