-- ==== Sys2Proof/Laws/Transactions.lean ====
section
/-! SUPPORT. Said once what a transaction can answer and what the register readers and the guards can do. -/

namespace Sys2Proof.Machine

/-! ### Outcomes -/

theorem freeAnswer_length {k n : Nat} {bs : List Byte} (h : freeAnswer k n = .ok bs) : bs.length = n := by
  unfold freeAnswer at h
  split at h
  · cases h
  · cases h; simp

theorem readOutcome_length {s : State} {n : Nat} {bs : List Byte} (h : s.readOutcome n = .ok bs) : bs.length = n := by
  unfold State.readOutcome at h
  split at h
  · split at h
    · cases h; assumption
    · cases h
  · cases h

/-- A one-byte read that succeeds has exactly one byte. -/
theorem readOutcome_one {s : State} {bs : List Byte} (h : s.readOutcome 1 = .ok bs) : ∃ b, bs = [b] := by
  simpa [List.length_eq_one_iff] using readOutcome_length h

@[simp] theorem firstByte_singleton (b : Byte) : firstByte [b] = b := rfl

theorem readOutcome_of_ok {s : State} {bs : List Byte} {rest : List Answer} (h : s.answers = .ok bs :: rest) :
    s.readOutcome bs.length = .ok bs := by
  simp [State.readOutcome, State.nextAnswer, h]

theorem readOutcome_of_err {s : State} {e : TransportError} {rest : List Answer} (n : Nat) (h : s.answers = .err e :: rest) :
    s.readOutcome n = .err e := by
  simp [State.readOutcome, State.nextAnswer, h]

theorem writeOutcome_of_ok {s : State} {bs : List Byte} {rest : List Answer} (h : s.answers = .ok bs :: rest) :
    s.writeOutcome = .ok () := by
  simp [State.writeOutcome, State.nextAnswer, h]

theorem writeOutcome_of_err {s : State} {e : TransportError} {rest : List Answer} (h : s.answers = .err e :: rest) :
    s.writeOutcome = .err e := by
  simp [State.writeOutcome, State.nextAnswer, h]

/-- Outcomes depend on the answers and the draw counter only. -/
theorem readOutcome_congr {s t : State} (n : Nat) (ha : s.answers = t.answers) (hd : s.draws = t.draws) :
    s.readOutcome n = t.readOutcome n := by
  simp only [State.readOutcome, State.nextAnswer, ha, hd]

theorem writeOutcome_congr {s t : State} (ha : s.answers = t.answers) (hd : s.draws = t.draws) :
    s.writeOutcome = t.writeOutcome := by
  simp only [State.writeOutcome, State.nextAnswer, ha, hd]

/-! ### Guards and register readers -/

theorem whenIdle_idle {s : State} (h : s.phase = .idle) (k : State → Outcome) : s.whenIdle k = k s := by
  simp [State.whenIdle, h]

theorem whenIdle_busy {s : State} (h : s.phase ≠ .idle) (k : State → Outcome) : s.whenIdle k = .refused .operationInFlight := by
  unfold State.whenIdle
  split <;> simp_all

theorem whenIdle_next {s t : State} {k : State → Outcome} (h : s.whenIdle k = .next t) : s.phase = .idle ∧ k s = .next t := by
  unfold State.whenIdle at h
  split at h
  · exact ⟨‹_›, h⟩
  · cases h
  · cases h
  · cases h
  · cases h

theorem readOp_next {s t : State} {k : Op → Outcome} (h : s.readOp k = .next t) : ∃ o, s.op = some o ∧ k o = .next t := by
  unfold State.readOp at h
  split at h
  · exact ⟨_, ‹_›, h⟩
  · cases h

theorem readCmd_next {s t : State} {k : DaliCommand → Outcome} (h : s.readCmd k = .next t) :
    ∃ c, s.cmd = some c ∧ k c = .next t := by
  unfold State.readCmd at h
  split at h
  · exact ⟨_, ‹_›, h⟩
  · cases h

theorem readPolls_next {s t : State} {k : Nat → Outcome} (h : s.readPolls k = .next t) :
    ∃ p, s.polls = some p ∧ k p = .next t := by
  unfold State.readPolls at h
  split at h
  · exact ⟨_, ‹_›, h⟩
  · cases h

theorem readCaptured_next {s t : State} {k : StatusByte → Outcome} (h : s.readCaptured k = .next t) :
    ∃ st, s.captured = some (some st) ∧ k st = .next t := by
  unfold State.readCaptured at h
  split at h
  · exact ⟨_, ‹_›, h⟩
  · cases h
  · cases h

theorem readResult_next {s t : State} {k : EngineResult → Outcome} (h : s.readResult k = .next t) :
    ∃ r, s.result = some r ∧ k r = .next t := by
  unfold State.readResult at h
  split at h
  · exact ⟨_, ‹_›, h⟩
  · cases h

/-! ### Status classes -/

theorem hsClass_busy {st : StatusByte} : hsClass st = .busy ↔ st.busy = true := by
  unfold hsClass; split <;> simp_all; split <;> simp

theorem hsClass_faulted {st : StatusByte} : hsClass st = .faulted ↔ st.busy = false ∧ st.busFault = true := by
  unfold hsClass; split <;> simp_all

theorem hsClass_ready {st : StatusByte} : hsClass st = .ready ↔ st.busy = false ∧ st.busFault = false := by
  unfold hsClass; split <;> simp_all

/-- R113: an interpretation is one of the three query-specific errors or the reply byte. -/
theorem interpret_cases (st : StatusByte) (v : Byte) :
    interpret st v = .err .frameError ∨ interpret st v = .err .overrun ∨ interpret st v = .err .noReply ∨
      interpret st v = .ok (.reply v) := by
  unfold interpret
  split
  · simp
  · split
    · simp
    · split <;> simp

end Sys2Proof.Machine
end

