-- ==== Sys2Proof/Laws/Engine.lean ====
section
/-! SUPPORT. Inversion: said once, for each phase and for a raw call, what a step that answers a next state can have done. -/

namespace Sys2Proof.Machine

theorem rawWrite_next {reg : Byte} {payload : List Byte} {s t : State} (h : rawWrite reg payload s = .next t) :
    s.phase = .idle ∧ t = (s.afterWrite reg payload).give (.written s.writeOutcome) := by
  obtain ⟨hi, hk⟩ := whenIdle_next h
  cases hk
  exact ⟨hi, rfl⟩

theorem rawRead_next {reg : Byte} {n : Nat} {s t : State} (h : rawRead reg n s = .next t) :
    s.phase = .idle ∧ t = (s.afterRead reg n).give (.bytesRead (s.readOutcome n)) := by
  obtain ⟨hi, hk⟩ := whenIdle_next h
  cases hk
  exact ⟨hi, rfl⟩

/-- R106: the command write succeeded and the wait begins, or it failed and the operation is over. -/
theorem issueStep_next {s t : State} (h : issueStep s = .next t) :
    ∃ c, s.cmd = some c ∧
      ((s.writeOutcome = .ok () ∧ t = (s.afterWrite regCommand (commandPayload c)).startWait) ∨
       ∃ e, s.writeOutcome = .err e ∧ t = (s.afterWrite regCommand (commandPayload c)).raise (.transport e)) := by
  obtain ⟨c, hc, hk⟩ := readCmd_next h
  refine ⟨c, hc, ?_⟩
  simp only at hk
  split at hk
  · cases hk; exact .inl ⟨‹_›, rfl⟩
  · cases hk; exact .inr ⟨_, ‹_›, rfl⟩

/-- R109, R110, R111: what a status does to the state that holds it. -/
theorem settlePoll_next {st : StatusByte} {s t : State} (h : settlePoll st s = .next t) :
    (hsClass st = .busy ∧ t = s) ∨
    (hsClass st = .faulted ∧ t = (s.setHs .faulted).raise .busFault) ∨
    (hsClass st = .ready ∧ s.op = some .send ∧ t = (s.setHs .ready).finish (.ok .unit)) ∨
    (hsClass st = .ready ∧ s.op = some .query ∧ t = (s.setHs .ready).toFetch) := by
  unfold settlePoll at h
  split at h
  · cases h; exact .inl ⟨‹_›, rfl⟩
  · cases h; exact .inr (.inl ⟨‹_›, rfl⟩)
  · obtain ⟨o, ho, hk⟩ := readOp_next h
    cases o <;> cases hk
    · exact .inr (.inr (.inl ⟨‹_›, ho, rfl⟩))
    · exact .inr (.inr (.inr ⟨‹_›, ho, rfl⟩))

/-- R107: the poll failed, or its status settles. -/
theorem pollStep_next {p : Nat} {s t : State} (h : pollStep p s = .next t) :
    (∃ e, s.readOutcome 1 = .err e ∧ t = (s.afterRead regStatus 1).raise (.transport e)) ∨
    ∃ b, s.readOutcome 1 = .ok [b] ∧
      settlePoll (decodeStatus b) ((s.afterRead regStatus 1).countPoll p (decodeStatus b)) = .next t := by
  unfold pollStep at h
  split at h
  · obtain ⟨b, rfl⟩ := readOutcome_one ‹_›
    exact .inr ⟨b, ‹_›, h⟩
  · cases h; exact .inl ⟨_, ‹_›, rfl⟩

/-- R107, R108: below the bound a poll, at it Timeout. -/
theorem waitStep_next {s t : State} (h : waitStep s = .next t) :
    ∃ p, s.polls = some p ∧ ((p < s.maxPolls ∧ pollStep p s = .next t) ∨ (s.maxPolls ≤ p ∧ t = s.raise .timeout)) := by
  obtain ⟨p, hp, hk⟩ := readPolls_next h
  refine ⟨p, hp, ?_⟩
  split at hk
  · exact .inl ⟨‹_›, hk⟩
  · cases hk; exact .inr ⟨by omega, rfl⟩

/-- R112: the reply read failed, or its byte is interpreted with the ready-time status. -/
theorem fetchStep_next {s t : State} (h : fetchStep s = .next t) :
    (∃ e, s.readOutcome 1 = .err e ∧ t = (s.afterRead regCommand 1).raise (.transport e)) ∨
    ∃ b st, s.readOutcome 1 = .ok [b] ∧ s.captured = some (some st) ∧
      t = (s.afterRead regCommand 1).finish (interpret st b) := by
  unfold fetchStep at h
  split at h
  · obtain ⟨b, rfl⟩ := readOutcome_one ‹_›
    obtain ⟨st, hst, hk⟩ := readCaptured_next h
    cases hk
    exact .inr ⟨b, st, ‹_›, hst, rfl⟩
  · cases h; exact .inl ⟨_, ‹_›, rfl⟩

/-- R114: the result is delivered. -/
theorem doneStep_next {s t : State} (h : doneStep s = .next t) : ∃ r, s.result = some r ∧ t = s.deliver r := by
  obtain ⟨r, hr, hk⟩ := readResult_next h
  cases hk
  exact ⟨r, hr, rfl⟩

/-- Every instruction that answers a next state did one of four things: it returned a pure result, made one raw write or one raw read
in Idle, or had its operation accepted in Idle. -/
theorem exec_next {i : Instr} {s t : State} (h : exec i s = .next t) :
    (∃ r, t = s.give r ∧ ∀ x, r ≠ .engine x) ∨
    (s.phase = .idle ∧ ∃ reg payload, t = (s.afterWrite reg payload).give (.written s.writeOutcome)) ∨
    (s.phase = .idle ∧ ∃ reg n, t = (s.afterRead reg n).give (.bytesRead (s.readOutcome n))) ∨
    (s.phase = .idle ∧ ∃ o c, t = s.accept o c) := by
  have hw : ∀ {reg payload}, rawWrite reg payload s = .next t →
      s.phase = .idle ∧ ∃ reg payload, t = (s.afterWrite reg payload).give (.written s.writeOutcome) :=
    fun h => ⟨(rawWrite_next h).1, _, _, (rawWrite_next h).2⟩
  have hr : ∀ {reg n}, rawRead reg n s = .next t →
      s.phase = .idle ∧ ∃ reg n, t = (s.afterRead reg n).give (.bytesRead (s.readOutcome n)) :=
    fun h => ⟨(rawRead_next h).1, _, _, (rawRead_next h).2⟩
  cases i with
  | encodeAddress sel target mode => cases h; exact .inl ⟨_, rfl, by simp⟩
  | writeRegister reg payload =>
    simp only [exec, execWriteRegister] at h
    split at h
    · cases h
    · exact .inr (.inl (hw h))
  | readRegister reg length =>
    simp only [exec, execReadRegister] at h
    split at h
    · cases h
    · exact .inr (.inr (.inl (hr h)))
  | send address data =>
    simp only [exec, execSend] at h
    obtain ⟨hi, hk⟩ := whenIdle_next h
    cases hk
    exact .inr (.inr (.inr ⟨hi, _, _, rfl⟩))
  | query address data =>
    simp only [exec, execQuery] at h
    obtain ⟨hi, hk⟩ := whenIdle_next h
    cases hk
    exact .inr (.inr (.inr ⟨hi, _, _, rfl⟩))
  | decodeStatus b => cases h; exact .inl ⟨_, rfl, by simp⟩
  | addrShort target mode => cases h; exact .inl ⟨_, rfl, by simp⟩
  | addrGroup group mode => cases h; exact .inl ⟨_, rfl, by simp⟩
  | addrBroadcast mode => cases h; exact .inl ⟨_, rfl, by simp⟩
  | rdStatus => exact .inr (.inr (.inl (hr h)))
  | wrCommand address data => exact .inr (.inl (hw h))
  | rdReply => exact .inr (.inr (.inl (hr h)))
  | wrConfig b => exact .inr (.inl (hw h))
  | rdSignature => exact .inr (.inr (.inl (hr h)))
  | wrI2cAddr b0 b1 => exact .inr (.inl (hw h))

/-- In Idle a step waits for a call or runs the caller's next one. -/
theorem callStep_next {s t : State} (h : callStep s = .next t) :
    (s.pending = [] ∧ t = s) ∨
    ∃ c rest i, s.pending = c :: rest ∧ decode c = .ok i ∧ exec i { s with pending := rest } = .next t := by
  unfold callStep State.takeCall at h
  cases hp : s.pending with
  | nil => simp only [hp] at h; cases h; exact .inl ⟨rfl, rfl⟩
  | cons c rest =>
    simp only [hp] at h
    cases hd : decode c with
    | ok i => simp only [hd] at h; exact .inr ⟨c, rest, i, rfl, hd, h⟩
    | error e => simp only [hd] at h; cases h

/-- A step that answers a next state had well-formed parameters and did what its phase does. -/
theorem step_next {s t : State} (h : step s = .next t) :
    parametersWellFormed s.gatewayAddr s.maxPolls = true ∧
      ((s.phase = .idle ∧ callStep s = .next t) ∨ (s.phase = .issue ∧ issueStep s = .next t) ∨
       (s.phase = .wait ∧ waitStep s = .next t) ∨ (s.phase = .fetch ∧ fetchStep s = .next t) ∨
       (s.phase = .done ∧ doneStep s = .next t)) := by
  unfold step at h
  split at h
  · cases h
  · refine ⟨‹_›, ?_⟩
    split at h <;> simp_all

end Sys2Proof.Machine
end

