-- ==== Sys2Proof/Laws/PerInstr.lean ====
section
/-! SUPPORT. What holds of every instruction as syntax, one lemma per constructor: the call of an instruction begins as its own row of
spec/opcode_table.json asks, and as no other row does. -/

namespace Sys2Proof.Laws

open Sys2Proof Sys2Proof.Machine

/-- The encoding of an instruction is covered by exactly its own row of the opcode table. -/
def TableRow.Statement (i : Instr) : Prop :=
  (opcodeTable.filter fun row => row.covers (encode i)).map OpcodeRow.mnemonic = [mnemonic i]

theorem TableRow.encodeAddress (sel : Selector) (target : Byte) (mode : Mode) :
    TableRow.Statement (.encodeAddress sel target mode) := rfl

theorem TableRow.writeRegister (reg : Byte) (payload : List Byte) : TableRow.Statement (.writeRegister reg payload) := rfl

theorem TableRow.readRegister (reg length : Byte) : TableRow.Statement (.readRegister reg length) := rfl

theorem TableRow.send (address data : Byte) : TableRow.Statement (.send address data) := rfl

theorem TableRow.query (address data : Byte) : TableRow.Statement (.query address data) := rfl

theorem TableRow.decodeStatus (b : Byte) : TableRow.Statement (.decodeStatus b) := rfl

theorem TableRow.addrShort (target : BitVec 6) (mode : Mode) : TableRow.Statement (.addrShort target mode) := by
  revert target
  unfold TableRow.Statement
  cases mode <;> decide

theorem TableRow.addrGroup (group : BitVec 4) (mode : Mode) : TableRow.Statement (.addrGroup group mode) := by
  revert group
  unfold TableRow.Statement
  cases mode <;> decide

theorem TableRow.addrBroadcast (mode : Mode) : TableRow.Statement (.addrBroadcast mode) := by
  cases mode <;> rfl

theorem TableRow.rdStatus : TableRow.Statement .rdStatus := rfl

theorem TableRow.wrCommand (address data : Byte) : TableRow.Statement (.wrCommand address data) := rfl

theorem TableRow.rdReply : TableRow.Statement .rdReply := rfl

theorem TableRow.wrConfig (b : Byte) : TableRow.Statement (.wrConfig b) := rfl

theorem TableRow.rdSignature : TableRow.Statement .rdSignature := rfl

theorem TableRow.wrI2cAddr (b0 b1 : Byte) : TableRow.Statement (.wrI2cAddr b0 b1) := rfl

end Sys2Proof.Laws
end

