-- ==== Sys2Proof/Tests/Slice0.lean ====
section
/-! SUPPORT. The model's own tests: well-formedness refusals, calls written out from the encodings of spec/30_encoding.md, one-step vectors
taken from spec/95_test_vectors.md, and for every statement with hypotheses a state and operands that meet them. -/

namespace Sys2Proof.Tests

open Sys2Proof Sys2Proof.Machine

/-! ### Small states -/

/-- An idle engine with bound `m`, the calls still to come and the environment's script. -/
def idleWith (m : Nat) (calls : List Call) (script : List Answer) : State :=
  { State.constructed 0x23 m with pending := calls, answers := script }

/-- An engine that has written the command (0x0A, 0xFE) and made `p` polls of at most `m`, the last one reading `c`. -/
def waiting (op : Op) (m p : Nat) (c : Option StatusByte) (script : List Answer) : State :=
  { idleWith m [] script with
    phase := .wait, op := some op, cmd := some ⟨0x0A, 0xFE⟩, hs := some .busy, polls := some p, captured := some c }

/-- A QUERY whose first poll read the ready-time status `b`. -/
def fetching (b : Byte) (script : List Answer) : State :=
  { idleWith 10 [] script with
    phase := .fetch, op := some .query, cmd := some ⟨0x07, 0xA0⟩, hs := some .ready, polls := some 1
    captured := some (some (decodeStatus b)) }

/-- An accepted operation, its command not yet written. -/
def issuing (op : Op) (script : List Answer) : State :=
  { idleWith 10 [] script with phase := .issue, op := some op, cmd := some ⟨0x0A, 0xFE⟩, captured := some none }

/-- A SEND that ended in Ready at its first poll. -/
def finished : State :=
  { idleWith 10 [] [] with
    phase := .done, op := some .send, cmd := some ⟨0x0A, 0xFE⟩, hs := some .ready, polls := some 1
    captured := some (some (decodeStatus 0)), result := some (.ok .unit) }

/-! ### Well-formedness (R11, R92, R93) -/

theorem test_wellFormed_refuses_empty_payload : (Instr.writeRegister 0x02 []).wellFormed = false := by decide
theorem test_wellFormed_refuses_zero_length : (Instr.readRegister 0x00 0).wellFormed = false := by decide
theorem test_wellFormed_admits_length_one :
    (Instr.writeRegister 0x02 [0]).wellFormed = true ∧ (Instr.readRegister 0x00 1).wellFormed = true := by decide
theorem test_parameters_refuse_zero_polls : parametersWellFormed 0x23 0 = false := by decide
theorem test_parameters_refuse_address_0x80 : parametersWellFormed 0x80 1 = false := by decide
theorem test_parameters_admit_the_edges : parametersWellFormed 0x7F 1 = true ∧ parametersWellFormed 0x00 1 = true := by decide

/-! ### Decoding: operations (R76; operand bytes: log 2) -/

theorem test_decode_encodeAddress :
    decode ⟨.operation, [0b00000000, 0x01, 0x0F, 0x01]⟩ = .ok (.encodeAddress .group 15 .command) := by rfl
theorem test_decode_writeRegister :
    decode ⟨.operation, [0b00000001, 0xFE, 0x12, 0x34, 0x56]⟩ = .ok (.writeRegister 0xFE [0x12, 0x34, 0x56]) := by rfl
theorem test_decode_readRegister :
    decode ⟨.operation, [0b00000010, 0xF0, 0x05]⟩ = .ok (.readRegister 0xF0 6) := by rfl
theorem test_decode_send : decode ⟨.operation, [0b00000011, 0x0A, 0xFE]⟩ = .ok (.send 0x0A 0xFE) := by rfl
theorem test_decode_query : decode ⟨.operation, [0b00000100, 0x07, 0xA0]⟩ = .ok (.query 0x07 0xA0) := by rfl
theorem test_decode_decodeStatus : decode ⟨.operation, [0b00000101, 0x88]⟩ = .ok (.decodeStatus 0x88) := by rfl
theorem test_decode_refuses_selectors_6_and_7 :
    decode ⟨.operation, [0b00000110, 0, 0]⟩ = .error .noSuchSelector ∧
    decode ⟨.operation, [0b00000111]⟩ = .error .noSuchSelector := ⟨rfl, rfl⟩
theorem test_decode_refuses_lead_bits : decode ⟨.operation, [0b00001011, 0, 0]⟩ = .error .leadBitsSet := by rfl
theorem test_decode_refuses_unnamed_selector_and_mode :
    decode ⟨.operation, [0, 3, 0, 0]⟩ = .error .notInEnumeration ∧
    decode ⟨.operation, [0, 0, 0, 2]⟩ = .error .notInEnumeration := ⟨rfl, rfl⟩
theorem test_decode_refuses_zero_and_256_lengths :
    decode ⟨.operation, [1, 0x02]⟩ = .error .zeroLength ∧ decode ⟨.operation, [2, 0x00, 0xFF]⟩ = .error .lengthTooLarge :=
  ⟨rfl, rfl⟩
theorem test_decode_refuses_wrong_byte_count :
    decode ⟨.operation, [3, 0x0A]⟩ = .error .wrongByteCount ∧ decode ⟨.operation, [5, 0, 0]⟩ = .error .wrongByteCount ∧
    decode ⟨.addressByte, []⟩ = .error .wrongByteCount := ⟨rfl, rfl, rfl⟩

/-! ### Decoding: address bytes (R66, R67, R68, R71) and transactions (R40, R75; layout: log 2) -/

theorem test_decode_addrShort : decode ⟨.addressByte, [0b01111111]⟩ = .ok (.addrShort 63 .command) := by rfl
theorem test_decode_addrGroup : decode ⟨.addressByte, [0b10011110]⟩ = .ok (.addrGroup 15 .dapc) := by rfl
theorem test_decode_addrBroadcast : decode ⟨.addressByte, [0b11111111]⟩ = .ok (.addrBroadcast .command) := by rfl
theorem test_decode_refuses_bytes_not_produced :
    decode ⟨.addressByte, [0xA0]⟩ = .error .notProduced ∧ decode ⟨.addressByte, [0xFD]⟩ = .error .notProduced := ⟨rfl, rfl⟩
theorem test_decode_rdStatus : decode ⟨.transaction, [0, 0x00, 0]⟩ = .ok .rdStatus := by rfl
theorem test_decode_wrCommand : decode ⟨.transaction, [1, 0x01, 0x0A, 0xFE]⟩ = .ok (.wrCommand 0x0A 0xFE) := by rfl
theorem test_decode_rdReply : decode ⟨.transaction, [0, 0x01, 0]⟩ = .ok .rdReply := by rfl
theorem test_decode_wrConfig : decode ⟨.transaction, [1, 0x02, 0x99]⟩ = .ok (.wrConfig 0x99) := by rfl
theorem test_decode_rdSignature : decode ⟨.transaction, [0, 0xF0, 5]⟩ = .ok .rdSignature := by rfl
theorem test_decode_wrI2cAddr : decode ⟨.transaction, [1, 0xFE, 0x23, 0x24]⟩ = .ok (.wrI2cAddr 0x23 0x24) := by rfl
theorem test_decode_unmapped_transactions :
    decode ⟨.transaction, [0, 0x77, 0]⟩ = .ok (.readRegister 0x77 1) ∧
    decode ⟨.transaction, [1, 0x01, 0x0A]⟩ = .ok (.writeRegister 0x01 [0x0A]) ∧
    decode ⟨.transaction, [2, 0x00, 0]⟩ = .error .noSuchDirection := ⟨rfl, rfl, rfl⟩

/-! ### Words of the opcode table, numbered as spec/opcode_table.json numbers them -/

theorem test_word_operations :
    decodeTableWord 8 0 = some (.encodeAddress .short 0 .dapc) ∧ decodeTableWord 8 1 = some (.writeRegister 0 [0]) ∧
    decodeTableWord 8 2 = some (.readRegister 0 1) ∧ decodeTableWord 8 3 = some (.send 0 0) ∧
    decodeTableWord 8 4 = some (.query 0 0) ∧ decodeTableWord 8 5 = some (.decodeStatus 0) ∧ decodeTableWord 8 6 = none :=
  ⟨rfl, rfl, rfl, rfl, rfl, rfl, rfl⟩
theorem test_word_addresses :
    decodeTableWord 8 0x0B = some (.addrShort 5 .command) ∧ decodeTableWord 8 0x80 = some (.addrGroup 0 .dapc) ∧
    decodeTableWord 8 0xFE = some (.addrBroadcast .dapc) ∧ decodeTableWord 8 0xA0 = none := ⟨rfl, rfl, rfl, rfl⟩

/-! ### One step: the Address Codec (vectors A10, A13, A22, A28, and R66 to R68) -/

theorem test_codec_vectors :
    encodeAddress .short 5 .dapc = .ok 0x0A ∧ encodeAddress .short 32 .command = .ok 0x41 ∧
    encodeAddress .group 7 .dapc = .ok 0x8E ∧ encodeAddress .group 16 .command = .err .invalidTarget ∧
    encodeAddress .broadcast 64 .dapc = .ok 0xFE := by decide
theorem test_encodeAddress_highest_short :
    exec (.encodeAddress .short 63 .command) (idleWith 1 [] []) =
      .next { idleWith 1 [] [] with delivered := [.address (.ok 0x7F)] } := by rfl
theorem test_encodeAddress_does_not_wrap :
    exec (.encodeAddress .short 128 .dapc) (idleWith 1 [] []) =
      .next { idleWith 1 [] [] with delivered := [.address (.err .invalidTarget)] } := by rfl
theorem test_addrShort_byte :
    exec (.addrShort 63 .dapc) (idleWith 1 [] []) = .next { idleWith 1 [] [] with delivered := [.address (.ok 0x7E)] } := by rfl
theorem test_addrGroup_byte :
    exec (.addrGroup 2 .command) (idleWith 1 [] []) = .next { idleWith 1 [] [] with delivered := [.address (.ok 0x85)] } := by rfl
theorem test_addrBroadcast_byte :
    exec (.addrBroadcast .dapc) (idleWith 1 [] []) = .next { idleWith 1 [] [] with delivered := [.address (.ok 0xFE)] } := by rfl

/-! ### One step: the Status Interpreter (vectors S11, S12, S15) -/

theorem test_decodeStatus_0x88 :
    exec (.decodeStatus 0x88) (idleWith 1 [] []) = .next { idleWith 1 [] [] with
      delivered := [.status ⟨false, false, false, true, false, false, false, true⟩] } := by rfl
theorem test_handshake_classes :
    hsClass (decodeStatus 0xC0) = .busy ∧ hsClass (decodeStatus 0xBF) = .faulted ∧ hsClass (decodeStatus 0x3F) = .ready := by decide
theorem test_encodeStatus_replyValid_busFault :
    encodeStatus ⟨false, false, false, true, false, false, false, true⟩ = 0x88 := by decide

/-! ### One step: the Register Transport (vectors T1, T2, T4, T5, T7, T8, T11) -/

theorem test_writeRegister_ok :
    exec (.writeRegister 0x01 [0x0A, 0xFE]) (idleWith 1 [] [.ok []]) = .next { idleWith 1 [] [] with
      draws := 1, trace := [⟨0x23, .write 0x01 [0x0A, 0xFE], .ok []⟩], delivered := [.written (.ok ())] } := by rfl
theorem test_writeRegister_nack :
    exec (.writeRegister 0x01 [0x0A, 0xFE]) (idleWith 1 [] [.err .nack]) = .next { idleWith 1 [] [] with
      draws := 1, trace := [⟨0x23, .write 0x01 [0x0A, 0xFE], .err .nack⟩], delivered := [.written (.err .nack)] } := by rfl
theorem test_readRegister_ok :
    exec (.readRegister 0x00 1) (idleWith 1 [] [.ok [0x40]]) = .next { idleWith 1 [] [] with
      draws := 1, trace := [⟨0x23, .read 0x00 1, .ok [0x40]⟩], delivered := [.bytesRead (.ok [0x40])] } := by rfl
theorem test_readRegister_refused_in_flight :
    exec (.readRegister 0x00 1) (issuing .send []) = .refused .operationInFlight := by rfl
theorem test_rdStatus_timeout :
    exec .rdStatus (idleWith 1 [] [.err .busTimeout]) = .next { idleWith 1 [] [] with
      draws := 1, trace := [⟨0x23, .read 0x00 1, .err .busTimeout⟩], delivered := [.bytesRead (.err .busTimeout)] } := by rfl
theorem test_wrCommand_payload_order :
    exec (.wrCommand 0x0A 0xFE) (idleWith 1 [] [.ok []]) = .next { idleWith 1 [] [] with
      draws := 1, trace := [⟨0x23, .write 0x01 [0x0A, 0xFE], .ok []⟩], delivered := [.written (.ok ())] } := by rfl
theorem test_rdReply_reads_register_1 :
    exec .rdReply (idleWith 1 [] [.ok [0x7F]]) = .next { idleWith 1 [] [] with
      draws := 1, trace := [⟨0x23, .read 0x01 1, .ok [0x7F]⟩], delivered := [.bytesRead (.ok [0x7F])] } := by rfl
theorem test_wrConfig_writes_register_2 :
    exec (.wrConfig 0x55) (idleWith 1 [] [.ok []]) = .next { idleWith 1 [] [] with
      draws := 1, trace := [⟨0x23, .write 0x02 [0x55], .ok []⟩], delivered := [.written (.ok ())] } := by rfl
theorem test_rdSignature_reads_six_bytes :
    exec .rdSignature (idleWith 1 [] [.ok [1, 2, 3, 4, 5, 6]]) = .next { idleWith 1 [] [] with
      draws := 1, trace := [⟨0x23, .read 0xF0 6, .ok [1, 2, 3, 4, 5, 6]⟩], delivered := [.bytesRead (.ok [1, 2, 3, 4, 5, 6])] } := by
  rfl
theorem test_wrI2cAddr_keeps_the_address :
    exec (.wrI2cAddr 0x24 0x25) (idleWith 1 [] [.ok []]) = .next { idleWith 1 [] [] with
      gatewayAddr := 0x23, draws := 1, trace := [⟨0x23, .write 0xFE [0x24, 0x25], .ok []⟩]
      delivered := [.written (.ok ())] } := by rfl

/-! ### One step: the Command Engine (trace of E2, vectors E4, E8, E13, Q4, Q7, Q9, Q11) -/

theorem test_send_is_accepted : step (idleWith 10 [encode (.send 0x0A 0xFE)] []) = .next (issuing .send []) := by rfl
theorem test_query_is_accepted : step (idleWith 10 [encode (.query 0x0A 0xFE)] []) = .next (issuing .query []) := by rfl
theorem test_issue_starts_the_wait :
    step (issuing .send [.ok []]) = .next { waiting .send 10 0 none [] with
      draws := 1, trace := [⟨0x23, .write 0x01 [0x0A, 0xFE], .ok []⟩] } := by rfl
theorem test_busy_wins_over_bus_fault :
    step (waiting .send 10 0 none [.ok [0xC0]]) = .next { waiting .send 10 1 (some (decodeStatus 0xC0)) [] with
      draws := 1, trace := [⟨0x23, .read 0x00 1, .ok [0xC0]⟩] } := by rfl
theorem test_failed_poll_is_not_counted :
    step (waiting .send 10 1 none [.err .busTimeout]) = .next { waiting .send 10 1 none [] with
      phase := .done, result := some (.err (.transport .busTimeout)), draws := 1
      trace := [⟨0x23, .read 0x00 1, .err .busTimeout⟩] } := by rfl
theorem test_timeout_step_polls_no_more :
    step (waiting .send 3 3 (some (decodeStatus 0x40)) []) = .next { waiting .send 3 3 (some (decodeStatus 0x40)) [] with
      phase := .done, result := some (.err .timeout) } := by rfl
theorem test_interpret_vectors :
    interpret (decodeStatus 0x00) 0xAA = .err .noReply ∧ interpret (decodeStatus 0x30) 0x55 = .err .frameError ∧
    interpret (decodeStatus 0x28) 0x55 = .err .overrun ∧ interpret (decodeStatus 0x0C) 0x42 = .ok (.reply 0x42) := by decide
theorem test_done_delivers :
    step finished = .next { idleWith 10 [] [] with delivered := [.engine (.ok .unit)] } := by rfl

/-! ### Witnesses: a state and operands that meet each statement's hypotheses, clause by clause -/

theorem test_witness_ShortSelectorGivesAddressByte : (0#8).toNat ≤ 63 ∧ (63#8).toNat ≤ 63 := by decide
theorem test_witness_GroupSelectorGivesAddressByte : (0#8).toNat ≤ 15 ∧ (15#8).toNat ≤ 15 := by decide
theorem test_witness_EncodeAddressRange :
    encodeAddress .group 15 .command = .ok 0x9F ∧ encodeAddress .broadcast 0 .dapc = .ok 0xFE ∧
    encodeAddress .broadcast 9 .dapc = .ok 0xFE := by decide
theorem test_witness_ClassificationAgreesWithCodec :
    (classify 0x9F).byte? = some 0x9F ∧ encodeAddress .short 63 .command = .ok 0x7F := by decide
theorem test_witness_RawTransportCallIsOneTransaction :
    (idleWith 1 [] []).phase = .idle ∧ ([0x0A] : List Byte) ≠ [] ∧ (1 : Byte) ≠ 0 ∧ (255 : Byte) ≠ 0 := by decide
theorem test_witness_RegisterMapReadsComplete : (idleWith 1 [] []).phase = .idle := by rfl
theorem test_witness_RegisterMapWritesComplete : (idleWith 1 [] []).phase = .idle := by rfl
theorem test_witness_RawCallInFlightIsRefused :
    (issuing .send []).phase ≠ .idle ∧ (waiting .send 2 0 none []).phase ≠ .idle ∧ (fetching 0x08 []).phase ≠ .idle ∧
    finished.phase ≠ .idle ∧ Instr.wellFormed (.readRegister 0x00 1) = true ∧ Instr.wellFormed (.writeRegister 0x02 [1]) = true ∧
    Instr.wellFormed .rdStatus = true ∧ Instr.wellFormed (.wrCommand 0 0) = true ∧ Instr.wellFormed .rdReply = true ∧
    Instr.wellFormed (.wrConfig 0) = true ∧ Instr.wellFormed .rdSignature = true ∧ Instr.wellFormed (.wrI2cAddr 0 0) = true := by
  decide
theorem test_witness_TransactionOutcomesAreFreeDraws : (idleWith 1 [] [.ok [0x40]]).readOutcome 1 = .ok [0x40] := by rfl
theorem test_witness_AcceptLoadsTheOperation : (idleWith 1 [] []).phase = .idle := by rfl
theorem test_witness_OperationInFlightIsRefused : (issuing .query []).phase ≠ .idle ∧ finished.phase ≠ .idle := by decide
theorem test_witness_IssueWritesTheCommand :
    (issuing .send [.ok []]).ParametersOk ∧ (issuing .send [.ok []]).phase = .issue ∧
    (issuing .send [.ok []]).cmd = some ⟨0x0A, 0xFE⟩ ∧ (issuing .send [.ok []]).writeOutcome = .ok () ∧
    (issuing .send [.err .nack]).writeOutcome = .err .nack := ⟨rfl, rfl, rfl, rfl, rfl⟩

/-- The hypotheses a poll needs, at the last poll the bound allows. -/
theorem test_witness_PollActsOnTheStatus :
    (∀ op script, (waiting op 2 1 (some (decodeStatus 0x40)) script).ParametersOk ∧
      (waiting op 2 1 (some (decodeStatus 0x40)) script).phase = .wait ∧
      (waiting op 2 1 (some (decodeStatus 0x40)) script).polls = some 1 ∧
      1 < (waiting op 2 1 (some (decodeStatus 0x40)) script).maxPolls ∧
      (waiting op 2 1 (some (decodeStatus 0x40)) script).op = some op) ∧
    (waiting .send 2 1 (some (decodeStatus 0x40)) [.err .nack]).readOutcome 1 = .err .nack ∧
    (∀ b : Byte, (waiting .send 2 1 (some (decodeStatus 0x40)) [.ok [b]]).readOutcome 1 = .ok [b]) ∧
    (0xC0#8).getLsbD 6 = true ∧ ((0x80#8).getLsbD 6 = false ∧ (0x80#8).getLsbD 7 = true) ∧
    ((0x3F#8).getLsbD 6 = false ∧ (0x3F#8).getLsbD 7 = false) :=
  ⟨fun _ _ => ⟨rfl, rfl, rfl, Nat.lt_succ_self 1, rfl⟩, rfl, fun _ => rfl, by decide, by decide, by decide⟩
theorem test_witness_BoundEndsTheWait :
    (waiting .send 1 1 none []).ParametersOk ∧ (waiting .send 1 1 none []).phase = .wait ∧
    (waiting .send 1 1 none []).polls = some (waiting .send 1 1 none []).maxPolls := ⟨rfl, rfl, rfl⟩
theorem test_witness_FetchInterpretsTheReply :
    (∀ b script, (fetching b script).ParametersOk ∧ (fetching b script).phase = .fetch ∧
      (fetching b script).captured = some (some (decodeStatus b))) ∧
    (fetching 0x08 [.ok [0x7F]]).readOutcome 1 = .ok [0x7F] ∧ (fetching 0x08 [.err .nack]).readOutcome 1 = .err .nack ∧
    (decodeStatus 0x18).frameError = true ∧ ((decodeStatus 0x28).frameError = false ∧ (decodeStatus 0x28).overrun = true) ∧
    ((decodeStatus 0x07).frameError = false ∧ (decodeStatus 0x07).overrun = false ∧ (decodeStatus 0x07).replyValid = false) :=
  ⟨fun _ _ => ⟨rfl, rfl, rfl⟩, rfl, rfl, rfl, ⟨rfl, rfl⟩, rfl, rfl, rfl⟩
theorem test_witness_DeliverReturnsToIdle :
    finished.ParametersOk ∧ finished.phase = .done ∧ finished.result = some (.ok .unit) := ⟨rfl, rfl, rfl⟩
theorem test_witness_BusyWinsOverBusFault :
    let s := waiting .send 2 1 (some (decodeStatus 0x40)) [.ok [0xC0]]
    s.ParametersOk ∧ s.phase = .wait ∧ s.polls = some 1 ∧ 1 < s.maxPolls ∧ s.answers = .ok [0xC0] :: [] ∧
      (0xC0#8).getLsbD 6 = true := ⟨rfl, rfl, rfl, by decide, rfl, rfl⟩
theorem test_witness_UnreadFlagsDoNotShow :
    let s := waiting .send 2 1 (some (decodeStatus 0x40)) []
    (s.ParametersOk ∧ s.phase = .wait ∧ s.op = some .send ∧ s.polls = some 1 ∧ 1 < s.maxPolls ∧
      (0x00#8).getLsbD 6 = (0x3F#8).getLsbD 6 ∧ (0x00#8).getLsbD 7 = (0x3F#8).getLsbD 7) ∧
    ((fetching 0x08 []).ParametersOk ∧ (fetching 0x08 []).phase = .fetch ∧
      (decodeStatus 0x08).frameError = (decodeStatus 0x0F).frameError ∧ (decodeStatus 0x08).overrun = (decodeStatus 0x0F).overrun ∧
      (decodeStatus 0x08).replyValid = (decodeStatus 0x0F).replyValid) :=
  ⟨⟨rfl, rfl, rfl, rfl, by decide, rfl, rfl⟩, rfl, rfl, rfl, rfl, rfl⟩

/-- States no run reaches, one for each clause. -/
theorem test_witness_UnsetRegisterReadFaults :
    (∀ ph script, ({ idleWith 1 [] script with phase := ph } : State).ParametersOk ∧
      ({ idleWith 1 [] script with phase := ph } : State).cmd = none ∧ ({ idleWith 1 [] script with phase := ph } : State).polls = none ∧
      ({ idleWith 1 [] script with phase := ph } : State).result = none ∧
      ({ idleWith 1 [] script with phase := ph } : State).captured = none ∧
      ({ idleWith 1 [] script with phase := ph } : State).answers = script) ∧
    (let s : State := { waiting .send 2 1 none [.ok [0x3F]] with op := none }
     s.ParametersOk ∧ s.phase = .wait ∧ s.polls = some 1 ∧ 1 < s.maxPolls ∧ s.op = none ∧ s.answers = .ok [0x3F] :: [] ∧
      readyByte 0x3F) :=
  ⟨fun _ _ => ⟨rfl, rfl, rfl, rfl, rfl, rfl⟩, rfl, rfl, rfl, by decide, rfl, rfl, rfl, rfl⟩
theorem test_witness_StepRunsTheDecodedCall :
    (idleWith 1 [encode .rdStatus] []).ParametersOk ∧ (idleWith 1 [encode .rdStatus] []).phase = .idle ∧
    (idleWith 1 [encode .rdStatus] []).pending = encode .rdStatus :: [] ∧ decode (encode .rdStatus) = .ok .rdStatus ∧
    Instr.wellFormed .rdStatus = true := ⟨rfl, rfl, rfl, rfl, rfl⟩
theorem test_witness_IdleWaitsForACall :
    State.reset.ParametersOk ∧ State.reset.phase = .idle ∧ State.reset.pending = [] := ⟨rfl, rfl, rfl⟩
theorem test_witness_UnnamedSelectorsAreRefused :
    ((idleWith 1 [⟨.operation, [6]⟩] []).ParametersOk ∧ (idleWith 1 [⟨.operation, [7]⟩] []).phase = .idle ∧
      (idleWith 1 [⟨.operation, [7]⟩] []).pending = ⟨.operation, 7 :: []⟩ :: []) ∧
    2 < (3#8).toNat ∧ 1 < (2#8).toNat := ⟨⟨rfl, rfl, rfl⟩, by decide, by decide⟩
theorem test_witness_IllFormedParametersAreRefused :
    (idleWith 0 [] []).maxPolls = 0 ∧ 0x7F < ({ idleWith 1 [] [] with gatewayAddr := 0x80 } : State).gatewayAddr.toNat ∧
    0x7F < (0x80#8).toNat ∧ (0x7F#8).toNat ≤ 0x7F := by decide
theorem test_witness_DecodeEncodeAgree : Instr.wellFormed (.readRegister 0xFF 255) = true ∧ Instr.wellFormed (.writeRegister 0 [0]) = true := by
  decide
theorem test_witness_DecodedCallsAreWellFormed :
    decode ⟨.operation, [2, 0xFF, 0xFE]⟩ = .ok (.readRegister 0xFF 255) ∧ decode ⟨.addressByte, [0x9F]⟩ = .ok (.addrGroup 15 .command) :=
  ⟨rfl, rfl⟩

/-! Coherent states, one for each phase, and the steps they take -/

theorem test_coherent_idle (calls : List Call) (script : List Answer) : (idleWith 2 calls script).Coherent :=
  ⟨rfl, rfl, rfl, rfl, rfl, rfl, rfl⟩
theorem test_coherent_issue (op : Op) (script : List Answer) : (issuing op script).Coherent :=
  ⟨rfl, nofun, nofun, rfl, rfl, rfl, rfl⟩
theorem test_coherent_wait (op : Op) (script : List Answer) : (waiting op 2 0 none script).Coherent :=
  ⟨rfl, nofun, nofun, rfl, rfl, 0, none, rfl, Nat.zero_le _, rfl, by decide, nofun⟩
theorem test_coherent_fetch (script : List Answer) : (fetching 0x08 script).Coherent :=
  ⟨rfl, rfl, nofun, rfl, rfl, 1, decodeStatus 0x08, rfl, Nat.le_refl 1, (by decide : 1 ≤ 10), rfl, rfl⟩
theorem test_coherent_done : finished.Coherent :=
  ⟨rfl, nofun, nofun, fun p h => by cases h; decide, .send, .ok .unit, rfl, rfl, rfl, fun _ => ⟨rfl, decodeStatus 0, rfl, rfl⟩,
    nofun, nofun⟩

theorem test_witness_StepKeepsCoherence :
    finished.Coherent ∧ step finished = .next { idleWith 10 [] [] with delivered := [.engine (.ok .unit)] } :=
  ⟨test_coherent_done, rfl⟩
theorem test_witness_CoherentRunsNeverFault : (waiting .query 2 0 none [.ok [0x08]]).Coherent := test_coherent_wait _ _
theorem test_witness_OperationRegistersHold :
    exec (.send 0x0A 0xFE) (idleWith 10 [] []) = .next (issuing .send []) ∧
    exec (.query 0x0A 0xFE) (idleWith 10 [] []) = .next (issuing .query []) ∧
    ((waiting .send 10 0 none [.ok [0xC0]]).phase ≠ .idle ∧
      step (waiting .send 10 0 none [.ok [0xC0]]) = .next { waiting .send 10 1 (some (decodeStatus 0xC0)) [] with
        draws := 1, trace := [⟨0x23, .read 0x00 1, .ok [0xC0]⟩] } ∧
      (waiting .send 10 1 (some (decodeStatus 0xC0)) []).phase ≠ .idle) := ⟨rfl, rfl, nofun, rfl, nofun⟩
theorem test_witness_ParametersNeverChange : step (idleWith 10 [encode (.send 0x0A 0xFE)] []) = .next (issuing .send []) := by rfl
theorem test_witness_OneTransactionPerStep :
    step (issuing .send [.ok []]) = .next { waiting .send 10 0 none [] with
      draws := 1, trace := [⟨0x23, .write 0x01 [0x0A, 0xFE], .ok []⟩] } := by rfl
theorem test_witness_EngineIssuesThreeKindsOfTransaction :
    (issuing .send [.ok []]).phase ≠ .idle ∧ (waiting .send 10 0 none []).phase ≠ .idle ∧ (fetching 0x08 []).phase ≠ .idle ∧
    step (fetching 0x08 [.ok [0x7F]]) = .next { fetching 0x08 [] with
      phase := .done, result := some (.ok (.reply 0x7F)), draws := 1, trace := [⟨0x23, .read 0x01 1, .ok [0x7F]⟩] } :=
  ⟨nofun, nofun, nofun, rfl⟩
theorem test_witness_OnlyEncodeAddressIsInvalidTarget :
    step (idleWith 1 [encode (.encodeAddress .short 64 .dapc)] []) =
      .next { idleWith 1 [] [] with delivered := [.address (.err .invalidTarget)] } := by rfl
theorem test_witness_DeliveredResultsAreAllowed :
    finished.Coherent ∧ step finished = .next { idleWith 10 [] [] with delivered := finished.delivered ++ [.engine (.ok .unit)] } :=
  ⟨test_coherent_done, rfl⟩

/-- An idle coherent engine whose next call is an operation, with any script. -/
theorem test_witness_SendStepsAgreeWithOperation (script : List Answer) :
    let s := idleWith 2 [encode (.send 0x0A 0xFE)] script
    s.Coherent ∧ s.phase = .idle ∧ s.pending = encode (.send 0x0A 0xFE) :: [] ∧
      decode (encode (.send 0x0A 0xFE)) = .ok (.send 0x0A 0xFE) := ⟨test_coherent_idle _ _, rfl, rfl, rfl⟩
theorem test_witness_QueryStepsAgreeWithOperation (script : List Answer) :
    let s := idleWith 2 [encode (.query 0x07 0xA0)] script
    s.Coherent ∧ s.phase = .idle ∧ s.pending = encode (.query 0x07 0xA0) :: [] ∧
      decode (encode (.query 0x07 0xA0)) = .ok (.query 0x07 0xA0) := ⟨test_coherent_idle _ _, rfl, rfl, rfl⟩
theorem test_witness_SendTraceShape : (idleWith 1 [] [.ok [], .ok [0x00]]).ParametersOk := by rfl
theorem test_witness_QueryTraceShape : (idleWith 1 [] [.ok [], .ok [0x08], .ok [0x7F]]).ParametersOk := by rfl
theorem test_witness_SendSucceedsAfterBusyPolls :
    let s := idleWith 2 [encode (.send 0x0A 0xFE)] [.ok [], .ok [0x40], .ok [0x3F]]
    s.Coherent ∧ s.phase = .idle ∧ s.pending = encode (.send 0x0A 0xFE) :: [] ∧
      decode (encode (.send 0x0A 0xFE)) = .ok (.send 0x0A 0xFE) ∧
      s.answers = .ok [] :: (([0x40] : List Byte).map fun b => .ok [b]) ++ .ok [0x3F] :: [] ∧
      (∀ b ∈ ([0x40] : List Byte), busyByte b) ∧ readyByte 0x3F ∧ ([0x40] : List Byte).length + 1 ≤ s.maxPolls :=
  ⟨test_coherent_idle _ _, rfl, rfl, rfl, rfl, by decide, by decide, by decide⟩
theorem test_witness_EndlessBusyTimesOut :
    let s := idleWith 2 [encode (.send 0x0A 0xFE)] [.ok [], .ok [0x40], .ok [0xC0]]
    s.Coherent ∧ s.phase = .idle ∧ s.pending = encode (.send 0x0A 0xFE) :: [] ∧
      decode (encode (.send 0x0A 0xFE)) = .ok (.send 0x0A 0xFE) ∧ decode (encode (.query 0x0A 0xFE)) = .ok (.query 0x0A 0xFE) ∧
      s.answers = .ok [] :: (([0x40, 0xC0] : List Byte).map fun b => .ok [b]) ++ [] ∧
      (∀ b ∈ ([0x40, 0xC0] : List Byte), busyByte b) ∧ ([0x40, 0xC0] : List Byte).length = s.maxPolls :=
  ⟨test_coherent_idle _ _, rfl, rfl, rfl, rfl, rfl, by decide, rfl⟩
theorem test_witness_QueryReturnsTheReplyByte :
    let s := idleWith 2 [encode (.query 0x07 0xA0)] [.ok [], .ok [0x40], .ok [0x09], .ok [0x7F]]
    s.Coherent ∧ s.phase = .idle ∧ s.pending = encode (.query 0x07 0xA0) :: [] ∧
      decode (encode (.query 0x07 0xA0)) = .ok (.query 0x07 0xA0) ∧
      s.answers = .ok [] :: (([0x40] : List Byte).map fun b => .ok [b]) ++ .ok [0x09] :: .ok [0x7F] :: [] ∧
      (∀ b ∈ ([0x40] : List Byte), busyByte b) ∧ readyByte 0x09 ∧ (0x09#8).getLsbD 3 = true ∧ (0x09#8).getLsbD 4 = false ∧
      (0x09#8).getLsbD 5 = false ∧ ([0x40] : List Byte).length + 1 ≤ s.maxPolls :=
  ⟨test_coherent_idle _ _, rfl, rfl, rfl, rfl, by decide, by decide, rfl, rfl, rfl, by decide⟩
theorem test_witness_PseudoOperationsExpand :
    63 < (64#8).toNat ∧ 15 < (16#8).toNat ∧ encodeAddress .group 2 .command = .ok 0x85 := by decide
theorem test_witness_ErrorCodesAreTheTable : engineErrorCode .timeout = 5 ∧ engineErrorCode (.transport .nack) = 2 := by decide

end Sys2Proof.Tests
end

/-! SUPPORT. The operation registers OP and CMD (spec/10_state.md R23, R33): how SEND and QUERY are admitted or refused, and what the
engine's steps leave of the two registers. -/

namespace Sys2Proof.Machine

/-! ### Presenting an operation -/

theorem exec_send (a d : Byte) (s : State) :
    exec (.send a d) s = s.whenIdle fun s => .next (s.accept .send ⟨a, d⟩) := rfl

theorem exec_query (a d : Byte) (s : State) :
    exec (.query a d) s = s.whenIdle fun s => .next (s.accept .query ⟨a, d⟩) := rfl

/-- R33: an operation that answers a next state was presented in Idle and accepted. -/
theorem exec_send_next {a d : Byte} {s t : State} (h : exec (.send a d) s = .next t) :
    s.phase = .idle ∧ t = s.accept .send ⟨a, d⟩ := by
  rw [exec_send] at h
  obtain ⟨hidle, hk⟩ := whenIdle_next h
  cases hk
  exact ⟨hidle, rfl⟩

theorem exec_query_next {a d : Byte} {s t : State} (h : exec (.query a d) s = .next t) :
    s.phase = .idle ∧ t = s.accept .query ⟨a, d⟩ := by
  rw [exec_query] at h
  obtain ⟨hidle, hk⟩ := whenIdle_next h
  cases hk
  exact ⟨hidle, rfl⟩

/-! ### OP and CMD while an operation is in flight -/

theorem issueStep_keeps_operation {s t : State} (h : issueStep s = .next t) : t.op = s.op ∧ t.cmd = s.cmd := by
  obtain ⟨c, -, ⟨-, rfl⟩ | ⟨e, -, rfl⟩⟩ := issueStep_next h <;> simp

theorem settlePoll_keeps_operation {st : StatusByte} {s t : State} (h : settlePoll st s = .next t) :
    t.op = s.op ∧ t.cmd = s.cmd := by
  obtain ⟨-, rfl⟩ | ⟨-, rfl⟩ | ⟨-, -, rfl⟩ | ⟨-, -, rfl⟩ := settlePoll_next h <;> simp

theorem pollStep_keeps_operation {p : Nat} {s t : State} (h : pollStep p s = .next t) :
    t.op = s.op ∧ t.cmd = s.cmd := by
  obtain ⟨e, -, rfl⟩ | ⟨b, -, hsettle⟩ := pollStep_next h
  · simp
  · simpa using settlePoll_keeps_operation hsettle

theorem waitStep_keeps_operation {s t : State} (h : waitStep s = .next t) : t.op = s.op ∧ t.cmd = s.cmd := by
  obtain ⟨p, -, ⟨-, hpoll⟩ | ⟨-, rfl⟩⟩ := waitStep_next h
  · exact pollStep_keeps_operation hpoll
  · simp

theorem fetchStep_keeps_operation {s t : State} (h : fetchStep s = .next t) : t.op = s.op ∧ t.cmd = s.cmd := by
  obtain ⟨e, -, rfl⟩ | ⟨b, st, -, -, rfl⟩ := fetchStep_next h <;> simp

theorem doneStep_returns_to_idle {s t : State} (h : doneStep s = .next t) : t.phase = .idle := by
  obtain ⟨r, -, rfl⟩ := doneStep_next h
  simp

/-- R23: a step taken in flight keeps OP and CMD unless it is the one that returns to Idle. -/
theorem step_keeps_operation_or_returns_to_idle {s t : State} (hs : s.phase ≠ .idle) (h : step s = .next t) :
    (t.op = s.op ∧ t.cmd = s.cmd) ∨ t.phase = .idle := by
  obtain ⟨-, ⟨hidle, -⟩ | ⟨-, hissue⟩ | ⟨-, hwait⟩ | ⟨-, hfetch⟩ | ⟨-, hdone⟩⟩ := step_next h
  · exact absurd hidle hs
  · exact .inl (issueStep_keeps_operation hissue)
  · exact .inl (waitStep_keeps_operation hwait)
  · exact .inl (fetchStep_keeps_operation hfetch)
  · exact .inr (doneStep_returns_to_idle hdone)

/-! ### The obligations -/

/-- Settles O38, by the acceptance of an operation and a case split over the phases in flight. -/
theorem operationRegistersHold : Obligations.OperationRegistersHold := by
  refine ⟨fun s t a d h => ?_, fun s t a d h => ?_, fun s t hs h ht => ?_⟩
  · obtain ⟨-, rfl⟩ := exec_send_next h
    simp
  · obtain ⟨-, rfl⟩ := exec_query_next h
    simp
  · exact (step_keeps_operation_or_returns_to_idle hs h).resolve_right ht

/-- Settles O18: both operations stand behind the guard that only an idle engine passes. -/
theorem operationInFlightIsRefused : Obligations.OperationInFlightIsRefused := fun s a d hs =>
  ⟨by rw [exec_send, whenIdle_busy hs], by rw [exec_query, whenIdle_busy hs]⟩

end Sys2Proof.Machine

/-! SUPPORT. The Address Codec (spec/40_address_codec.md R82 to R86): the bit fields of an address byte, the operands ENCODE_ADDRESS
rejects, and what the instruction leaves of the state. -/

namespace Sys2Proof.Machine

/-! ### The bit fields of an address byte (R65, R69) -/

/-- R65: the access mode is bit 0 alone. -/
theorem modeBit_getLsbD (m : Mode) (i : Nat) : (modeBit m).getLsbD i = (decide (i = 0) && m == .command) := by
  cases m with
  | command => exact BitVec.getLsbD_one.trans (by simp)
  | dapc => exact BitVec.getLsbD_zero.trans (by simp)

/-- R69: the selector bit is bit 7 alone. -/
theorem selectorBit_getLsbD (sel : Selector) (i : Nat) :
    (selectorBit sel).getLsbD i = (decide (i = 7) && sel != .short) := by
  have h80 : (BitVec.twoPow 8 7).getLsbD i = decide (i = 7) := by
    simp [BitVec.getLsbD_twoPow, eq_comm]
  cases sel with
  | short => exact BitVec.getLsbD_zero.trans (by simp)
  | group => exact h80.trans (by simp)
  | broadcast => exact h80.trans (by simp)

theorem addressByte_short (t : Byte) (m : Mode) : addressByte .short t m = t <<< 1 ||| modeBit m := by
  simp [addressByte, selectorBit]

theorem addressByte_group (t : Byte) (m : Mode) : addressByte .group t m = 0x80#8 ||| t <<< 1 ||| modeBit m := by
  rw [addressByte, BitVec.or_comm (t <<< 1)]; rfl

/-- R69: the target from bit 1 up, the selector at bit 7, the mode at bit 0. -/
theorem addressByte_getLsbD (sel : Selector) (t : Byte) (m : Mode) (i : Nat) :
    (addressByte sel t m).getLsbD i =
      ((t <<< 1).getLsbD i || decide (i = 7) && sel != .short || decide (i = 0) && m == .command) := by
  rw [addressByte, BitVec.getLsbD_or, BitVec.getLsbD_or, selectorBit_getLsbD, modeBit_getLsbD]

theorem addressByte_getLsbD_zero (sel : Selector) (t : Byte) (m : Mode) :
    (addressByte sel t m).getLsbD 0 = (m == .command) := by
  rw [addressByte_getLsbD]; simp

/-- Bit 7 is the selector bit, or bit 6 of a target too large for six bits. -/
theorem addressByte_getLsbD_seven (sel : Selector) (t : Byte) (m : Mode) :
    (addressByte sel t m).getLsbD 7 = (t.getLsbD 6 || sel != .short) := by
  rw [addressByte_getLsbD]; simp

/-- Bits 6:1 are the target's low six bits: neither the selector bit nor the mode bit reaches them. -/
theorem addressByte_getLsbD_succ {i : Nat} (sel : Selector) (t : Byte) (m : Mode) (hi : i < 6) :
    (addressByte sel t m).getLsbD (i + 1) = t.getLsbD i := by
  have hseven : i + 1 ≠ 7 := by omega
  rw [addressByte_getLsbD, BitVec.getLsbD_shiftLeft]
  simp [hseven, show i + 1 < 8 by omega]

/-- A field within bits 6:1 is the target's field one bit lower. -/
theorem addressByte_extractLsb' {k n : Nat} (sel : Selector) (t : Byte) (m : Mode) (hkn : k + n ≤ 6) :
    (addressByte sel t m).extractLsb' (k + 1) n = t.extractLsb' k n := by
  ext i hi
  have hbit := addressByte_getLsbD_succ sel t m (show k + i < 6 by omega)
  simpa [Nat.add_right_comm k 1 i] using hbit

/-- A target of n bits stands whole in the n bits above the mode bit. -/
theorem addressByte_target {n : Nat} {t : Byte} (sel : Selector) (m : Mode) (hn : n ≤ 6) (ht : t.toNat < 2 ^ n) :
    ((addressByte sel t m).extractLsb' 1 n).toNat = t.toNat := by
  rw [addressByte_extractLsb' (k := 0) sel t m (by omega)]
  simpa using Nat.mod_eq_of_lt ht

/-! ### ENCODE_ADDRESS -/

/-- R86: the result depends on the operands alone, and the caller's record is the only field written. -/
theorem exec_encodeAddress (sel : Selector) (t : Byte) (m : Mode) (s : State) :
    exec (.encodeAddress sel t m) s =
      .next { s with delivered := s.delivered ++ [.address (encodeAddress sel t m)] } := rfl

theorem encodeAddress_short_of_le {t : Byte} (m : Mode) (ht : t.toNat ≤ 63) :
    encodeAddress .short t m = .ok (addressByte .short t m) := by
  obtain ⟨-, h⟩ | ⟨hgt, -⟩ := encodeAddress_short t m
  · exact h
  · omega

theorem encodeAddress_group_of_le {t : Byte} (m : Mode) (ht : t.toNat ≤ 15) :
    encodeAddress .group t m = .ok (addressByte .group t m) := by
  obtain ⟨-, h⟩ | ⟨hgt, -⟩ := encodeAddress_group t m
  · exact h
  · omega

/-- R84: Broadcast has no bound, and its target is forced to 63. -/
theorem encodeAddress_broadcast (t : Byte) (m : Mode) :
    encodeAddress .broadcast t m = .ok (addressByte .broadcast broadcastTarget m) := rfl

/-- R85: only Short and Group have a bound to exceed. -/
theorem encodeAddress_eq_invalidTarget_iff (sel : Selector) (t : Byte) (m : Mode) :
    encodeAddress sel t m = .err .invalidTarget ↔
      (sel = .short ∧ 63 < t.toNat) ∨ (sel = .group ∧ 15 < t.toNat) := by
  cases sel with
  | short =>
    obtain ⟨hle, h⟩ | ⟨hgt, h⟩ := encodeAddress_short t m
    · simp [h, hle]
    · simp [h, hgt]
  | group =>
    obtain ⟨hle, h⟩ | ⟨hgt, h⟩ := encodeAddress_group t m
    · simp [h, hle]
    · simp [h, hgt]
  | broadcast => simp [encodeAddress_broadcast]

/-! ### The obligations -/

/-- Settles O1: a target below 64 leaves bit 7 clear and fills bits 6:1. -/
theorem shortSelectorGivesAddressByte : Obligations.ShortSelectorGivesAddressByte := by
  intro s t m ht
  have hbit6 : t.getLsbD 6 = false :=
    (BitVec.testBit_toNat t).symm.trans (Nat.testBit_lt_two_pow (by omega))
  refine ⟨addressByte .short t m, ?_, ?_, ?_, ?_, addressByte_getLsbD_zero .short t m, ?_⟩
  · rw [exec_encodeAddress, encodeAddress_short_of_le m ht]
  · rw [addressByte_short]; cases m <;> rfl
  · rw [addressByte_getLsbD_seven, hbit6]; rfl
  · exact addressByte_target .short m le_rfl (by omega)
  · rw [BitVec.toNat_shiftLeft, Nat.shiftLeft_eq]; omega

/-- Settles O2: a target below 16 leaves bits 6:5 clear and fills bits 4:1, under the group selector's bit 7. -/
theorem groupSelectorGivesAddressByte : Obligations.GroupSelectorGivesAddressByte := by
  intro s t m ht
  refine ⟨addressByte .group t m, ?_, ?_, ?_, ?_, ?_, addressByte_getLsbD_zero .group t m⟩
  · rw [exec_encodeAddress, encodeAddress_group_of_le m ht]
  · rw [addressByte_group]; cases m <;> rfl
  · rw [addressByte_getLsbD_seven, Bool.or_eq_true]; exact .inr rfl
  · rw [addressByte_extractLsb' (k := 4) .group t m (by omega)]
    apply BitVec.eq_of_toNat_eq
    rw [BitVec.extractLsb'_toNat, Nat.shiftRight_eq_div_pow, Nat.div_eq_of_lt (by omega)]; rfl
  · exact addressByte_target .group m (by omega) (by omega)

/-- Settles O3: the forced target 63 makes the byte closed in each mode, and 0xFF in its place shifts to the same bits. -/
theorem broadcastSelectorIgnoresTarget : Obligations.BroadcastSelectorIgnoresTarget := by
  intro s t m
  refine ⟨addressByte .broadcast broadcastTarget m, ?_, ?_⟩
  · rw [exec_encodeAddress, encodeAddress_broadcast]
  · cases m <;> decide

/-- Settles O4: the codec's result is the same from every state, and its bounds are those of Short and Group. -/
theorem invalidTargetExactlyOutOfBounds : Obligations.InvalidTargetExactlyOutOfBounds := fun sel t m =>
  ⟨encodeAddress sel t m, exec_encodeAddress sel t m, encodeAddress_eq_invalidTarget_iff sel t m⟩

end Sys2Proof.Machine

/-! SUPPORT. The Command Engine's steps (spec/42_command_engine.md R105 to R114) read forward: what each phase's step answers under each
outcome of its transaction, with the handshake class and the interpretation of a status by its flags. -/

namespace Sys2Proof.Machine

/-! ### Status flags: the handshake class and the interpretation -/

theorem hsClass_decodeStatus_busy {b : Byte} : hsClass (decodeStatus b) = .busy ↔ b.getLsbD 6 = true := hsClass_busy

theorem hsClass_decodeStatus_faulted {b : Byte} :
    hsClass (decodeStatus b) = .faulted ↔ b.getLsbD 6 = false ∧ b.getLsbD 7 = true := hsClass_faulted

theorem hsClass_decodeStatus_ready {b : Byte} : hsClass (decodeStatus b) = .ready ↔ readyByte b := hsClass_ready

/-- R132: the class reads no flag but busy and bus-fault. -/
theorem hsClass_congr {st st' : StatusByte} (hbusy : st.busy = st'.busy) (hfault : st.busFault = st'.busFault) :
    hsClass st = hsClass st' := by
  rw [hsClass, hsClass, hbusy, hfault]

theorem interpret_of_frameError {st : StatusByte} (v : Byte) (hf : st.frameError = true) :
    interpret st v = .err .frameError := by
  simp [interpret, hf]

theorem interpret_of_overrun {st : StatusByte} (v : Byte) (hf : st.frameError = false) (ho : st.overrun = true) :
    interpret st v = .err .overrun := by
  simp [interpret, hf, ho]

theorem interpret_of_no_replyValid {st : StatusByte} (v : Byte) (hf : st.frameError = false) (ho : st.overrun = false)
    (hr : st.replyValid = false) : interpret st v = .err .noReply := by
  simp [interpret, hf, ho, hr]

theorem interpret_of_replyValid {st : StatusByte} (v : Byte) (hf : st.frameError = false) (ho : st.overrun = false)
    (hr : st.replyValid = true) : interpret st v = .ok (.reply v) := by
  simp [interpret, hf, ho, hr]

/-- R113: the reply byte is the result exactly under the three flags; each other valuation gives an error. -/
theorem interpret_eq_reply_iff {st : StatusByte} {v : Byte} :
    interpret st v = .ok (.reply v) ↔ st.replyValid = true ∧ st.frameError = false ∧ st.overrun = false := by
  refine ⟨fun h => ?_, fun ⟨hr, hf, ho⟩ => interpret_of_replyValid v hf ho hr⟩
  cases hf : st.frameError with
  | true => simp [interpret_of_frameError v hf] at h
  | false =>
    cases ho : st.overrun with
    | true => simp [interpret_of_overrun v hf ho] at h
    | false =>
      cases hr : st.replyValid with
      | false => simp [interpret_of_no_replyValid v hf ho hr] at h
      | true => simp

/-- R116: the interpretation reads no flag but frame-error, overrun and reply-valid. -/
theorem interpret_congr {st st' : StatusByte} (v : Byte) (hf : st.frameError = st'.frameError)
    (ho : st.overrun = st'.overrun) (hr : st.replyValid = st'.replyValid) : interpret st v = interpret st' v := by
  rw [interpret, interpret, hf, ho, hr]

/-! ### Register readers of a set register -/

theorem readOp_of_some {s : State} {o : Op} (h : s.op = some o) (k : Op → Outcome) : s.readOp k = k o := by
  simp [State.readOp, h]

theorem readCmd_of_some {s : State} {c : DaliCommand} (h : s.cmd = some c) (k : DaliCommand → Outcome) :
    s.readCmd k = k c := by
  simp [State.readCmd, h]

theorem readPolls_of_some {s : State} {p : Nat} (h : s.polls = some p) (k : Nat → Outcome) : s.readPolls k = k p := by
  simp [State.readPolls, h]

theorem readCaptured_of_some {s : State} {st : StatusByte} (h : s.captured = some (some st)) (k : StatusByte → Outcome) :
    s.readCaptured k = k st := by
  simp [State.readCaptured, h]

theorem readResult_of_some {s : State} {r : EngineResult} (h : s.result = some r) (k : EngineResult → Outcome) :
    s.readResult k = k r := by
  simp [State.readResult, h]

/-! ### The step of each phase in flight -/

theorem step_of_issue {s : State} (hp : s.ParametersOk) (h : s.phase = .issue) : step s = issueStep s := by
  simp only [step, hp, h]

theorem step_of_wait {s : State} (hp : s.ParametersOk) (h : s.phase = .wait) : step s = waitStep s := by
  simp only [step, hp, h]

theorem step_of_fetch {s : State} (hp : s.ParametersOk) (h : s.phase = .fetch) : step s = fetchStep s := by
  simp only [step, hp, h]

theorem step_of_done {s : State} (hp : s.ParametersOk) (h : s.phase = .done) : step s = doneStep s := by
  simp only [step, hp, h]

/-! ### One transaction, by its outcome -/

theorem afterWrite_eq {s : State} {o : Result TransportError Unit} (reg : Byte) (payload : List Byte)
    (h : s.writeOutcome = o) : s.afterWrite reg payload = s.perform (.write reg payload) (writeAnswer o) := by
  rw [State.afterWrite, h]

theorem afterRead_eq {s : State} {n : Nat} {o : Answer} (reg : Byte) (h : s.readOutcome n = o) :
    s.afterRead reg n = s.perform (.read reg n) o := by
  rw [State.afterRead, h]

/-! ### Issue -/

theorem issueStep_of_ok {s : State} {c : DaliCommand} (hc : s.cmd = some c) (h : s.writeOutcome = .ok ()) :
    issueStep s = .next (s.perform (.write regCommand (commandPayload c)) (.ok [])).startWait := by
  simp only [issueStep, readCmd_of_some hc, afterWrite_eq _ _ h, h, writeAnswer]

theorem issueStep_of_err {s : State} {c : DaliCommand} {e : TransportError} (hc : s.cmd = some c)
    (h : s.writeOutcome = .err e) :
    issueStep s = .next ((s.perform (.write regCommand (commandPayload c)) (.err e)).raise (.transport e)) := by
  simp only [issueStep, readCmd_of_some hc, afterWrite_eq _ _ h, h, writeAnswer]

/-! ### Wait -/

/-- The state a poll that read `b` settles in: the read is in the trace, the poll counted and the status captured. -/
def State.polled (s : State) (p : Nat) (b : Byte) : State :=
  (s.perform (.read regStatus 1) (.ok [b])).countPoll p (decodeStatus b)

theorem settlePoll_of_busy {st : StatusByte} (h : hsClass st = .busy) (s : State) : settlePoll st s = .next s := by
  simp only [settlePoll, h]

theorem settlePoll_of_faulted {st : StatusByte} (h : hsClass st = .faulted) (s : State) :
    settlePoll st s = .next ((s.setHs .faulted).raise .busFault) := by
  simp only [settlePoll, h]

theorem settlePoll_of_ready_send {st : StatusByte} {s : State} (h : hsClass st = .ready) (ho : s.op = some .send) :
    settlePoll st s = .next ((s.setHs .ready).finish (.ok .unit)) := by
  simp only [settlePoll, h, readOp_of_some ho]

theorem settlePoll_of_ready_query {st : StatusByte} {s : State} (h : hsClass st = .ready) (ho : s.op = some .query) :
    settlePoll st s = .next (s.setHs .ready).toFetch := by
  simp only [settlePoll, h, readOp_of_some ho]

theorem waitStep_below_bound {s : State} {p : Nat} (hpolls : s.polls = some p) (hlt : p < s.maxPolls) :
    waitStep s = pollStep p s := by
  rw [waitStep, readPolls_of_some hpolls, if_pos hlt]

theorem waitStep_at_bound {s : State} (hpolls : s.polls = some s.maxPolls) : waitStep s = .next (s.raise .timeout) := by
  rw [waitStep, readPolls_of_some hpolls, if_neg (lt_irrefl _)]

/-- R107: a poll whose read failed. -/
theorem step_poll_of_err {s : State} {p : Nat} {e : TransportError} (hp : s.ParametersOk) (hwait : s.phase = .wait)
    (hpolls : s.polls = some p) (hlt : p < s.maxPolls) (h : s.readOutcome 1 = .err e) :
    step s = .next ((s.perform (.read regStatus 1) (.err e)).raise (.transport e)) := by
  rw [step_of_wait hp hwait, waitStep_below_bound hpolls hlt]
  simp only [pollStep, afterRead_eq _ h, h]

/-- R107: a poll that read a byte settles by the status it captured. -/
theorem step_poll_of_ok {s : State} {p : Nat} {b : Byte} (hp : s.ParametersOk) (hwait : s.phase = .wait)
    (hpolls : s.polls = some p) (hlt : p < s.maxPolls) (h : s.readOutcome 1 = .ok [b]) :
    step s = settlePoll (decodeStatus b) (s.polled p b) := by
  rw [step_of_wait hp hwait, waitStep_below_bound hpolls hlt]
  simp only [pollStep, afterRead_eq _ h, h, firstByte_singleton, State.polled]

/-- R116: how a SEND's poll leaves PHASE, RESULT, HS and POLLS is told by the class of the status and by the state polled, not by the
status itself. -/
theorem settlePoll_send_congr {st st' : StatusByte} {s s' : State} (hclass : hsClass st = hsClass st')
    (ho : s.op = some .send) (ho' : s'.op = some .send) (hphase : s'.phase = s.phase) (hresult : s'.result = s.result)
    (hhs : s'.hs = s.hs) (hpolls : s'.polls = s.polls) :
    ∃ t t', settlePoll st s = .next t ∧ settlePoll st' s' = .next t' ∧
      t'.phase = t.phase ∧ t'.result = t.result ∧ t'.hs = t.hs ∧ t'.polls = t.polls := by
  cases h : hsClass st with
  | busy =>
    exact ⟨_, _, settlePoll_of_busy h s, settlePoll_of_busy (hclass ▸ h) s', hphase, hresult, hhs, hpolls⟩
  | faulted =>
    exact ⟨_, _, settlePoll_of_faulted h s, settlePoll_of_faulted (hclass ▸ h) s', rfl, rfl, rfl, hpolls⟩
  | ready =>
    exact ⟨_, _, settlePoll_of_ready_send h ho, settlePoll_of_ready_send (hclass ▸ h) ho', rfl, rfl, rfl, hpolls⟩

/-! ### Fetch -/

/-- R112: a failed reply read is the result, whatever CAPTURED holds. -/
theorem step_fetch_of_err {s : State} {e : TransportError} (hp : s.ParametersOk) (hfetch : s.phase = .fetch)
    (h : s.readOutcome 1 = .err e) :
    step s = .next ((s.perform (.read regCommand 1) (.err e)).raise (.transport e)) := by
  rw [step_of_fetch hp hfetch]
  simp only [fetchStep, afterRead_eq _ h, h]

/-- R112, R113: a reply byte read is interpreted with the captured status. -/
theorem step_fetch_of_ok {s : State} {st : StatusByte} {v : Byte} (hp : s.ParametersOk) (hfetch : s.phase = .fetch)
    (hcap : s.captured = some (some st)) (h : s.readOutcome 1 = .ok [v]) :
    step s = .next ((s.perform (.read regCommand 1) (.ok [v])).finish (interpret st v)) := by
  rw [step_of_fetch hp hfetch]
  simp only [fetchStep, afterRead_eq _ h, h, readCaptured_of_some hcap, firstByte_singleton]

/-! ### The obligations -/

/-- Settles O17: an idle engine passes the guard in front of both operations. -/
theorem acceptLoadsTheOperation : Obligations.AcceptLoadsTheOperation := by
  intro s a d hidle
  refine ⟨?_, ?_⟩
  · rw [exec_send, whenIdle_idle hidle]; rfl
  · rw [exec_query, whenIdle_idle hidle]; rfl

/-- Settles O19, by the outcome of the command write. -/
theorem issueWritesTheCommand : Obligations.IssueWritesTheCommand := by
  intro s c hp hissue hc
  rw [step_of_issue hp hissue]
  refine ⟨fun e h => ?_, fun h => ?_⟩
  · rw [issueStep_of_err hc h]; rfl
  · rw [issueStep_of_ok hc h]; rfl

/-- Settles O20, by the outcome of the status read, then by the class of the byte and the operation. -/
theorem pollActsOnTheStatus : Obligations.PollActsOnTheStatus := by
  intro s p hp hwait hpolls hlt
  refine ⟨fun e h => ?_, fun bs h => ?_⟩
  · rw [step_poll_of_err hp hwait hpolls hlt h]; rfl
  · obtain ⟨b, rfl⟩ := readOutcome_one h
    rw [step_poll_of_ok hp hwait hpolls hlt h]
    refine ⟨b, rfl, fun hbusy => ?_, fun hbusy hfault => ?_, fun hbusy hfault hop => ?_, fun hbusy hfault hop => ?_⟩
    · exact settlePoll_of_busy (hsClass_decodeStatus_busy.2 hbusy) (s.polled p b)
    · exact settlePoll_of_faulted (hsClass_decodeStatus_faulted.2 ⟨hbusy, hfault⟩) (s.polled p b)
    · exact settlePoll_of_ready_send (s := s.polled p b) (hsClass_decodeStatus_ready.2 ⟨hbusy, hfault⟩) hop
    · exact settlePoll_of_ready_query (s := s.polled p b) (hsClass_decodeStatus_ready.2 ⟨hbusy, hfault⟩) hop

/-- Settles O21: at the bound the wait raises Timeout before any read. -/
theorem boundEndsTheWait : Obligations.BoundEndsTheWait := by
  intro s hp hwait hpolls
  rw [step_of_wait hp hwait, waitStep_at_bound hpolls]; rfl

/-- Settles O22, by the outcome of the reply read, then by the interpretation of the captured flags. -/
theorem fetchInterpretsTheReply : Obligations.FetchInterpretsTheReply := by
  intro s st hp hfetch hcap
  refine ⟨fun e h => ?_, fun bs h => ?_⟩
  · rw [step_fetch_of_err hp hfetch h]; rfl
  · obtain ⟨v, rfl⟩ := readOutcome_one h
    refine ⟨v, interpret st v, rfl, ?_, interpret_of_frameError v, interpret_of_overrun v, interpret_of_no_replyValid v,
      interpret_eq_reply_iff⟩
    rw [step_fetch_of_ok hp hfetch hcap h]; rfl

/-- Settles O23: the Done step delivers the result that is set. -/
theorem deliverReturnsToIdle : Obligations.DeliverReturnsToIdle := by
  intro s r hp hdone hr
  rw [step_of_done hp hdone, doneStep, readResult_of_some hr]; rfl

/-- Settles O24: busy is tested first, and a busy poll changes nothing beyond counting and capturing. -/
theorem busyWinsOverBusFault : Obligations.BusyWinsOverBusFault := by
  intro s p b rest hp hwait hpolls hlt hans hbusy
  have hstep : step s = .next (s.polled p b) := by
    rw [step_poll_of_ok hp hwait hpolls hlt (readOutcome_of_ok hans),
      settlePoll_of_busy (hsClass_decodeStatus_busy.2 hbusy)]
  exact ⟨s.polled p b, hstep, hwait, rfl, rfl, rfl⟩

/-- Settles O25: SEND's poll sees the class of the status only, and QUERY's interpretation its three flags only. -/
theorem unreadFlagsDoNotShow : Obligations.UnreadFlagsDoNotShow := by
  refine ⟨fun s p b b' rest hp hwait hop hpolls hlt hbusy hfault => ?_, fun s st st' hp hfetch hf ho hr => ?_⟩
  · have hclass : hsClass (decodeStatus b) = hsClass (decodeStatus b') := hsClass_congr hbusy hfault
    have hpoll : ∀ x : Byte, step { s with answers := .ok [x] :: rest } =
        settlePoll (decodeStatus x) (State.polled { s with answers := .ok [x] :: rest } p x) :=
      fun x => step_poll_of_ok hp hwait hpolls hlt (readOutcome_of_ok (bs := [x]) rfl)
    rw [hpoll b, hpoll b']
    exact settlePoll_send_congr hclass hop hop rfl rfl rfl rfl
  · cases h : s.readOutcome 1 with
    | err e => exact ⟨_, step_fetch_of_err hp hfetch h, step_fetch_of_err hp hfetch h, rfl, rfl⟩
    | ok bs =>
      obtain ⟨v, rfl⟩ := readOutcome_one h
      have hstep : ∀ x : StatusByte, step { s with captured := some (some x) } = .next
          ((State.perform { s with captured := some (some x) } (.read regCommand 1) (.ok [v])).finish (interpret x v)) :=
        fun x => step_fetch_of_ok hp hfetch rfl h
      refine ⟨_, hstep st, ?_, rfl, rfl⟩
      rw [hstep st', interpret_congr v hf ho hr]; rfl

end Sys2Proof.Machine

/-! SUPPORT. The Status Interpreter (spec/43_status_interpreter.md R124, R125): a flag read as its bit's weight in the status byte, and
what DECODE_STATUS leaves of the state. -/

namespace Sys2Proof.Machine

/-- R125: the flags depend on the byte alone, and the caller's record is the only field written. -/
theorem exec_decodeStatus (b : Byte) (s : State) :
    exec (.decodeStatus b) s = .next { s with delivered := s.delivered ++ [.status (decodeStatus b)] } := rfl

/-- R74: bit i of a status byte is the parity of the byte divided by the bit's weight. -/
theorem byte_getLsbD_eq_decide (b : Byte) (i : Nat) : b.getLsbD i = decide (b.toNat / 2 ^ i % 2 = 1) :=
  (BitVec.testBit_toNat b).symm.trans Nat.testBit_eq_decide_div_mod_eq

/-! ### The obligation -/

/-- Settles O8: DECODE_STATUS delivers the decoded record, and each of its flags is one bit, read by weight. -/
theorem decodeStatusReadsEachBit : Obligations.DecodeStatusReadsEachBit := by
  intro s b
  rw [exec_decodeStatus, decodeStatus]
  simp only [byte_getLsbD_eq_decide, Nat.reducePow, Nat.div_one]

end Sys2Proof.Machine

/-! SUPPORT. The address byte as a number (spec/40_address_codec.md, range laws) and the classification of an arbitrary byte
(spec/30_encoding.md R64 to R70): what each form of the codec gives, and which bytes have no form. -/

namespace Sys2Proof.Machine

/-! ### The address byte as a number -/

theorem modeBit_toNat (m : Mode) : (modeBit m).toNat = (m == .command).toNat := by
  cases m <;> rfl

theorem modeBit_toNat_le (m : Mode) : (modeBit m).toNat ≤ 1 := by
  rw [modeBit_toNat]; exact Bool.toNat_le _

theorem modeBit_injective {m m' : Mode} (h : (modeBit m).toNat = (modeBit m').toNat) : m = m' := by
  cases m <;> cases m'
  · rfl
  · exact absurd h (by decide)
  · exact absurd h (by decide)
  · rfl

/-- A bit of a byte, as a number, is the byte divided by the bit's weight, modulo 2. -/
theorem byte_getLsbD_toNat (b : Byte) (i : Nat) : (b.getLsbD i).toNat = b.toNat / 2 ^ i % 2 := by
  rw [byte_getLsbD_eq_decide]
  obtain h | h := Nat.mod_two_eq_zero_or_one (b.toNat / 2 ^ i) <;> simp [h]

/-- R69: for a target of six bits the three parts of the address byte do not overlap. -/
theorem addressByte_toNat {t : Byte} (sel : Selector) (m : Mode) (ht : t.toNat < 64) :
    (addressByte sel t m).toNat = 128 * (sel != .short).toNat + 2 * t.toNat + (modeBit m).toNat := by
  have hmode := byte_getLsbD_toNat (addressByte sel t m) 0
  have hsel := byte_getLsbD_toNat (addressByte sel t m) 7
  have htarget : (addressByte sel t m).toNat / 2 % 64 = t.toNat := by
    simpa [BitVec.extractLsb'_toNat, Nat.shiftRight_eq_div_pow] using addressByte_target sel m le_rfl ht
  have hbit6 : t.getLsbD 6 = false := (BitVec.testBit_toNat t).symm.trans (Nat.testBit_lt_two_pow ht)
  rw [addressByte_getLsbD_zero, ← modeBit_toNat] at hmode
  rw [addressByte_getLsbD_seven, hbit6, Bool.false_or] at hsel
  have hbyte := (addressByte sel t m).isLt
  omega

/-- R66: the short form is the byte of its fields, `0TTTTTTS`. -/
theorem addressByte_short_toNat (t : BitVec 6) (m : Mode) :
    (addressByte .short (t.zeroExtend 8) m).toNat = 2 * t.toNat + (modeBit m).toNat := by
  have ht : (t.zeroExtend 8).toNat = t.toNat := BitVec.toNat_setWidth_of_le (by omega)
  rw [addressByte_toNat .short m (by omega), ht]; simp

/-- R67: the group form is the byte of its fields, `100GGGGS`. -/
theorem addressByte_group_toNat (g : BitVec 4) (m : Mode) :
    (addressByte .group (g.zeroExtend 8) m).toNat = 128 + 2 * g.toNat + (modeBit m).toNat := by
  have hg : (g.zeroExtend 8).toNat = g.toNat := BitVec.toNat_setWidth_of_le (by omega)
  rw [addressByte_toNat .group m (by omega), hg]; simp

/-- R68: the broadcast form is `1111111S`. -/
theorem addressByte_broadcast_toNat (m : Mode) :
    (addressByte .broadcast broadcastTarget m).toNat = 254 + (modeBit m).toNat := by
  rw [addressByte_toNat .broadcast m (by decide)]; rfl

/-- R81: a byte the codec returns is the address byte of its selector, with the target within that selector's bound. -/
theorem encodeAddress_ok {sel : Selector} {t b : Byte} {m : Mode} (h : encodeAddress sel t m = .ok b) :
    (sel = .short ∧ t.toNat ≤ 63 ∧ b.toNat = 2 * t.toNat + (modeBit m).toNat) ∨
    (sel = .group ∧ t.toNat ≤ 15 ∧ b.toNat = 128 + 2 * t.toNat + (modeBit m).toNat) ∨
    (sel = .broadcast ∧ b.toNat = 254 + (modeBit m).toNat) := by
  cases sel with
  | short =>
    obtain ⟨hle, hok⟩ | ⟨-, herr⟩ := encodeAddress_short t m
    · cases hok.symm.trans h
      exact .inl ⟨rfl, hle, by simpa using addressByte_toNat .short m (by omega)⟩
    · cases herr.symm.trans h
  | group =>
    obtain ⟨hle, hok⟩ | ⟨-, herr⟩ := encodeAddress_group t m
    · cases hok.symm.trans h
      exact .inr (.inl ⟨rfl, hle, addressByte_toNat .group m (by omega)⟩)
    · cases herr.symm.trans h
  | broadcast =>
    cases h
    exact .inr (.inr ⟨rfl, addressByte_broadcast_toNat m⟩)

/-! ### The classification of a byte -/

/-- A value widened to a byte keeps its bits. -/
theorem zeroExtend_extractLsb' {n : Nat} (x : BitVec n) (hn : n ≤ 8) : (x.zeroExtend 8).extractLsb' 0 n = x := by
  rw [← BitVec.setWidth_eq_extractLsb' hn, BitVec.setWidth_setWidth_of_le x hn, BitVec.setWidth_eq]

theorem modeOfBit_modeBit (m : Mode) : modeOfBit (m == .command) = m := by
  cases m <;> rfl

theorem modeBit_modeOfBit_toNat (x : Bool) : (modeBit (modeOfBit x)).toNat = x.toNat := by
  cases x <;> rfl

/-- R70 by arithmetic: the form of a byte is told by its value, and its fields are the value's. -/
theorem classify_cases (a : Byte) :
    (a.toNat < 0x80 ∧ classify a = .shortForm (a.extractLsb' 1 6) (modeOfBit (a.getLsbD 0))) ∨
    (0x80 ≤ a.toNat ∧ a.toNat < 0xA0 ∧ classify a = .groupForm (a.extractLsb' 1 4) (modeOfBit (a.getLsbD 0))) ∨
    (0xFE ≤ a.toNat ∧ classify a = .broadcastForm (modeOfBit (a.getLsbD 0))) ∨
    (0xA0 ≤ a.toNat ∧ a.toNat < 0xFE ∧ classify a = .notProduced) := by
  have ha := a.isLt
  have hshort : a.getLsbD 7 = false ↔ a.toNat < 0x80 := by
    rw [byte_getLsbD_eq_decide, decide_eq_false_iff_not]; omega
  have hgroup : a.extractLsb' 5 2 = 0 ↔ a.toNat / 32 % 4 = 0 := by
    rw [BitVec.toNat_eq, BitVec.extractLsb'_toNat, Nat.shiftRight_eq_div_pow]; rfl
  have hbroadcast : a.extractLsb' 1 7 = 127 ↔ a.toNat / 2 % 128 = 127 := by
    rw [BitVec.toNat_eq, BitVec.extractLsb'_toNat, Nat.shiftRight_eq_div_pow]; rfl
  simp only [classify, hshort, hgroup, hbroadcast]
  split
  · exact .inl ⟨‹_›, rfl⟩
  · split
    · exact .inr (.inl ⟨by omega, by omega, rfl⟩)
    · split
      · exact .inr (.inr (.inl ⟨by omega, rfl⟩))
      · exact .inr (.inr (.inr ⟨by omega, by omega, rfl⟩))

/-- R70: exactly the bytes between the group forms and the broadcast forms have no form. -/
theorem classify_eq_notProduced_iff (a : Byte) : classify a = .notProduced ↔ 0xA0 ≤ a.toNat ∧ a.toNat ≤ 0xFD := by
  obtain ⟨_, h⟩ | ⟨_, _, h⟩ | ⟨_, h⟩ | ⟨_, _, h⟩ := classify_cases a <;> simp [h] <;> omega

/-- R70: encoding the fields of a classified byte gives the byte back. -/
theorem byte_classify {a : Byte} (h : classify a ≠ .notProduced) : (classify a).byte? = some a := by
  have hmode : (modeBit (modeOfBit (a.getLsbD 0))).toNat = a.toNat % 2 := by
    rw [modeBit_modeOfBit_toNat, byte_getLsbD_toNat, pow_zero, Nat.div_one]
  have hfield : ∀ n, (a.extractLsb' 1 n).toNat = a.toNat / 2 % 2 ^ n := fun n => by
    rw [BitVec.extractLsb'_toNat, Nat.shiftRight_eq_div_pow, pow_one]
  obtain ⟨hlt, hform⟩ | ⟨hge, hlt, hform⟩ | ⟨hge, hform⟩ | ⟨-, -, hform⟩ := classify_cases a
  · rw [hform, AddressForm.byte?, Option.some_inj, BitVec.toNat_eq, addressByte_short_toNat, hmode, hfield]; omega
  · rw [hform, AddressForm.byte?, Option.some_inj, BitVec.toNat_eq, addressByte_group_toNat, hmode, hfield]; omega
  · have ha := a.isLt
    rw [hform, AddressForm.byte?, Option.some_inj, BitVec.toNat_eq, addressByte_broadcast_toNat, hmode]; omega
  · exact absurd hform h

/-- R70: the form of a byte is the only one that encodes to it. -/
theorem classify_of_byte {f : AddressForm} {a : Byte} (h : f.byte? = some a) : classify a = f := by
  cases f with
  | shortForm t m =>
    cases h
    have hlt := addressByte_short_toNat t m
    have hmode := modeBit_toNat_le m
    obtain ⟨-, hform⟩ | ⟨hge, -⟩ | ⟨hge, -⟩ | ⟨hge, -⟩ := classify_cases (addressByte .short (t.zeroExtend 8) m)
    · rw [hform, addressByte_getLsbD_zero, modeOfBit_modeBit, addressByte_extractLsb' (k := 0) _ _ _ le_rfl,
        zeroExtend_extractLsb' t (by omega)]
    all_goals omega
  | groupForm g m =>
    cases h
    have hlt := addressByte_group_toNat g m
    have hmode := modeBit_toNat_le m
    obtain ⟨hlt', -⟩ | ⟨-, -, hform⟩ | ⟨hge, -⟩ | ⟨hge, -⟩ := classify_cases (addressByte .group (g.zeroExtend 8) m)
    case inr.inl =>
      rw [hform, addressByte_getLsbD_zero, modeOfBit_modeBit, addressByte_extractLsb' (k := 0) _ _ _ (by omega),
        zeroExtend_extractLsb' g (by omega)]
    all_goals omega
  | broadcastForm m =>
    cases h
    cases m <;> rfl
  | notProduced => cases h

/-- R70: a byte has a form exactly when the codec returns it. -/
theorem encodeAddress_image_iff (b : Byte) :
    (∃ sel t m, encodeAddress sel t m = .ok b) ↔ classify b ≠ .notProduced := by
  refine ⟨fun ⟨sel, t, m, h⟩ hnone => ?_, fun h => ?_⟩
  · have hrange := (classify_eq_notProduced_iff b).1 hnone
    have hmode := modeBit_toNat_le m
    obtain ⟨-, ht, hb⟩ | ⟨-, ht, hb⟩ | ⟨-, hb⟩ := encodeAddress_ok h <;> omega
  · have hbyte := byte_classify h
    cases hform : classify b with
    | shortForm t m =>
      rw [hform, AddressForm.byte?, Option.some_inj] at hbyte
      exact ⟨.short, t.zeroExtend 8, m, by rw [encodeAddress_sixBits, hbyte]⟩
    | groupForm g m =>
      rw [hform, AddressForm.byte?, Option.some_inj] at hbyte
      exact ⟨.group, g.zeroExtend 8, m, by rw [encodeAddress_fourBits, hbyte]⟩
    | broadcastForm m =>
      rw [hform, AddressForm.byte?, Option.some_inj] at hbyte
      exact ⟨.broadcast, 0, m, by rw [encodeAddress_broadcast, hbyte]⟩
    | notProduced => exact absurd hform h

/-! ### The three address forms as instructions -/

theorem exec_addrShort (t : BitVec 6) (m : Mode) (s : State) :
    exec (.addrShort t m) s = .next (s.give (.address (.ok (addressByte .short (t.zeroExtend 8) m)))) := by
  rw [← encodeAddress_sixBits]; rfl

theorem exec_addrGroup (g : BitVec 4) (m : Mode) (s : State) :
    exec (.addrGroup g m) s = .next (s.give (.address (.ok (addressByte .group (g.zeroExtend 8) m)))) := by
  rw [← encodeAddress_fourBits]; rfl

theorem exec_addrBroadcast (m : Mode) (s : State) :
    exec (.addrBroadcast m) s = .next (s.give (.address (.ok (addressByte .broadcast broadcastTarget m)))) := rfl

/-! ### The pseudo-operations -/

theorem execSendTo_of_ok {sel : Selector} {t a : Byte} {m : Mode} (h : encodeAddress sel t m = .ok a) (data : Byte) (s : State) :
    execSendTo sel t m data s = exec (.send a data) s := by
  simp only [execSendTo, h]; rfl

theorem execQueryTo_of_ok {sel : Selector} {t a : Byte} {m : Mode} (h : encodeAddress sel t m = .ok a) (data : Byte) (s : State) :
    execQueryTo sel t m data s = exec (.query a data) s := by
  simp only [execQueryTo, h]; rfl

theorem execSendTo_of_err {sel : Selector} {t : Byte} {m : Mode} {e : CodecError} (h : encodeAddress sel t m = .err e)
    (data : Byte) (s : State) : execSendTo sel t m data s = .next (s.give (.address (.err e))) := by
  simp only [execSendTo, h]

theorem execQueryTo_of_err {sel : Selector} {t : Byte} {m : Mode} {e : CodecError} (h : encodeAddress sel t m = .err e)
    (data : Byte) (s : State) : execQueryTo sel t m data s = .next (s.give (.address (.err e))) := by
  simp only [execQueryTo, h]

/-! ### The obligations -/

/-- Settles O5: the image is the classified bytes, and the value of a returned byte tells selector, target and mode apart. -/
theorem encodeAddressRange : Obligations.EncodeAddressRange := by
  refine ⟨fun b => ?_, rfl, fun sel t m sel' t' m' b h h' => ?_, fun t t' m => rfl, fun sel t m b h => ?_⟩
  · have hb := b.isLt
    rw [encodeAddress_image_iff, ne_eq, classify_eq_notProduced_iff]; omega
  · have hm := modeBit_toNat_le m
    have hm' := modeBit_toNat_le m'
    obtain ⟨rfl, ht, hb⟩ | ⟨rfl, ht, hb⟩ | ⟨rfl, hb⟩ := encodeAddress_ok h
    · obtain ⟨rfl, ht', hb'⟩ | ⟨-, -, hb'⟩ | ⟨-, hb'⟩ := encodeAddress_ok h'
      · exact ⟨rfl, modeBit_injective (by omega), fun _ => BitVec.eq_of_toNat_eq (by omega)⟩
      all_goals omega
    · obtain ⟨-, ht', hb'⟩ | ⟨rfl, ht', hb'⟩ | ⟨-, hb'⟩ := encodeAddress_ok h'
      case inr.inl => exact ⟨rfl, modeBit_injective (by omega), fun _ => BitVec.eq_of_toNat_eq (by omega)⟩
      all_goals omega
    · obtain ⟨-, ht', hb'⟩ | ⟨-, ht', hb'⟩ | ⟨rfl, hb'⟩ := encodeAddress_ok h'
      case inr.inr => exact ⟨rfl, modeBit_injective (by omega), fun hne => absurd rfl hne⟩
      all_goals omega
  · have hm := modeBit_toNat_le m
    have hodd : b.toNat % 2 = (modeBit m).toNat := by
      obtain ⟨-, -, hb⟩ | ⟨-, -, hb⟩ | ⟨-, hb⟩ := encodeAddress_ok h <;> omega
    rw [byte_getLsbD_eq_decide, pow_zero, Nat.div_one, hodd]
    cases m <;> rfl

/-- Settles O7: classifying and encoding a form are inverse to each other, and the codec's bytes are those with a form. -/
theorem classificationAgreesWithCodec : Obligations.ClassificationAgreesWithCodec := by
  refine ⟨classify_eq_notProduced_iff, fun a b h => ?_, fun sel t m b h => ?_⟩
  · have hform : classify a ≠ .notProduced := fun hnone => by simp [hnone, AddressForm.byte?] at h
    exact Option.some_inj.1 ((byte_classify hform).symm.trans h)
  · exact byte_classify ((encodeAddress_image_iff b).1 ⟨sel, t, m, h⟩)

/-- Settles O6: a target of six bits and a group of four are within their bounds, so each form returns the byte of its fields. -/
theorem addressFormsGiveTheirByte : Obligations.AddressFormsGiveTheirByte := by
  intro s t g m bit
  have hbit : bit = (modeBit m).toNat := by cases m <;> rfl
  rw [hbit]
  exact ⟨⟨_, exec_addrShort t m s, addressByte_short_toNat t m⟩, ⟨_, exec_addrGroup g m s, addressByte_group_toNat g m⟩,
    ⟨_, exec_addrBroadcast m s, addressByte_broadcast_toNat m⟩⟩

/-- Settles O52, by the codec's answer for the target. -/
theorem pseudoOperationsExpand : Obligations.PseudoOperationsExpand := by
  intro s sel t m data
  refine ⟨fun hout => ?_, fun a h => ⟨execSendTo_of_ok h data s, execQueryTo_of_ok h data s⟩⟩
  have h := (encodeAddress_eq_invalidTarget_iff sel t m).2 hout
  exact ⟨execSendTo_of_err h data s, execQueryTo_of_err h data s⟩

end Sys2Proof.Machine

/-! SUPPORT. The decoder and the encoder (spec/30_encoding.md): decoding an encoded instruction, and what a decoding function that
answers can have read. -/

namespace Sys2Proof

open Sys2Proof.Machine

/-! ### Decoding an encoded instruction -/

theorem decode_encode_addrShort (t : BitVec 6) (m : Mode) : decode (encode (.addrShort t m)) = .ok (.addrShort t m) := by
  change decodeAddressByte (addressByte .short (t.zeroExtend 8) m) = _
  rw [decodeAddressByte, classify_of_byte (f := .shortForm t m) rfl]

theorem decode_encode_addrGroup (g : BitVec 4) (m : Mode) : decode (encode (.addrGroup g m)) = .ok (.addrGroup g m) := by
  change decodeAddressByte (addressByte .group (g.zeroExtend 8) m) = _
  rw [decodeAddressByte, classify_of_byte (f := .groupForm g m) rfl]

theorem decode_encode_addrBroadcast (m : Mode) : decode (encode (.addrBroadcast m)) = .ok (.addrBroadcast m) := by
  change decodeAddressByte (addressByte .broadcast broadcastTarget m) = _
  rw [decodeAddressByte, classify_of_byte (f := .broadcastForm m) rfl]

theorem decode_encode_encodeAddress (sel : Selector) (target : Byte) (mode : Mode) :
    decode (encode (.encodeAddress sel target mode)) = .ok (.encodeAddress sel target mode) := by
  change decodeEncodeAddress [selectorCode sel, target, modeBit mode] = _
  simp only [decodeEncodeAddress, selectorOf_selectorCode, modeOf_modeBit]

theorem decode_encode_writeRegister {payload : List Byte} (reg : Byte) (h : payload ≠ []) :
    decode (encode (.writeRegister reg payload)) = .ok (.writeRegister reg payload) := by
  obtain ⟨b, bs, rfl⟩ := List.exists_cons_of_ne_nil h
  rfl

theorem decode_encode_readRegister {length : Byte} (reg : Byte) (h : length ≠ 0) :
    decode (encode (.readRegister reg length)) = .ok (.readRegister reg length) := by
  change decodeReadRegister [reg, lengthCode length] = _
  simp only [decodeReadRegister, lengthOf_lengthCode h]

/-! ### What the operands of an operation decode to -/

theorem decodeEncodeAddress_ok {operands : List Byte} {i : Instr} (h : decodeEncodeAddress operands = .ok i) :
    ∃ sel target mode, i = .encodeAddress sel target mode ∧ operands = [selectorCode sel, target, modeBit mode] := by
  unfold decodeEncodeAddress at h
  split at h
  · split at h
    · next sel mode hsel hmode =>
      cases h
      exact ⟨sel, _, mode, rfl, by rw [selectorCode_of_selectorOf hsel, modeBit_of_modeOf hmode]⟩
    · cases h
  · cases h

theorem decodeWriteRegister_ok {operands : List Byte} {i : Instr} (h : decodeWriteRegister operands = .ok i) :
    ∃ reg b bs, i = .writeRegister reg (b :: bs) ∧ operands = reg :: b :: bs := by
  unfold decodeWriteRegister at h
  split at h
  · cases h
  · cases h
  · cases h; exact ⟨_, _, _, rfl, rfl⟩

theorem decodeReadRegister_ok {operands : List Byte} {i : Instr} (h : decodeReadRegister operands = .ok i) :
    ∃ reg n, i = .readRegister reg n ∧ n ≠ 0 ∧ operands = [reg, lengthCode n] := by
  unfold decodeReadRegister at h
  split at h
  · split at h
    · next n hlen =>
      cases h
      obtain ⟨hn, rfl⟩ := lengthCode_of_lengthOf hlen
      exact ⟨_, n, rfl, hn, rfl⟩
    · cases h
  · cases h

theorem decodeSend_ok {operands : List Byte} {i : Instr} (h : decodeSend operands = .ok i) :
    ∃ a d, i = .send a d ∧ operands = [a, d] := by
  unfold decodeSend at h
  split at h
  · cases h; exact ⟨_, _, rfl, rfl⟩
  · cases h

theorem decodeQuery_ok {operands : List Byte} {i : Instr} (h : decodeQuery operands = .ok i) :
    ∃ a d, i = .query a d ∧ operands = [a, d] := by
  unfold decodeQuery at h
  split at h
  · cases h; exact ⟨_, _, rfl, rfl⟩
  · cases h

theorem decodeDecodeStatus_ok {operands : List Byte} {i : Instr} (h : decodeDecodeStatus operands = .ok i) :
    ∃ b, i = .decodeStatus b ∧ operands = [b] := by
  unfold decodeDecodeStatus at h
  split at h
  · cases h; exact ⟨_, rfl, rfl⟩
  · cases h

/-! ### One meaning for a call -/

/-- R76: a lead byte without bits above its selector is that selector. -/
theorem lead_eq_of_selector {lead : Byte} {k : Nat} (hhigh : lead.extractLsb' 3 5 = 0) (hk : (lead.extractLsb' 0 3).toNat = k) :
    lead = BitVec.ofNat 8 k := by
  have hlead := lead.isLt
  have hhigh : lead.toNat / 2 ^ 3 % 2 ^ 5 = 0 := by
    rw [← Nat.shiftRight_eq_div_pow, ← BitVec.extractLsb'_toNat, hhigh]; rfl
  rw [BitVec.extractLsb'_toNat, Nat.shiftRight_eq_div_pow, pow_zero, Nat.div_one] at hk
  apply BitVec.eq_of_toNat_eq
  rw [BitVec.toNat_ofNat]
  omega

/-- R76: an operation that decodes is well-formed and encodes to the call it was read from. -/
theorem decodeOperation_ok {lead : Byte} {operands : List Byte} {i : Instr} (h : decodeOperation lead operands = .ok i) :
    i.wellFormed = true ∧ encode i = ⟨.operation, lead :: operands⟩ := by
  unfold decodeOperation at h
  split at h
  · cases h
  · next hhigh =>
    have hlead : ∀ {k}, (lead.extractLsb' 0 3).toNat = k → lead = BitVec.ofNat 8 k :=
      lead_eq_of_selector (not_not.1 hhigh)
    split at h
    · next hk =>
      obtain ⟨sel, target, mode, rfl, rfl⟩ := decodeEncodeAddress_ok h
      exact ⟨rfl, by rw [hlead hk]; rfl⟩
    · next hk =>
      obtain ⟨reg, b, bs, rfl, rfl⟩ := decodeWriteRegister_ok h
      exact ⟨rfl, by rw [hlead hk]; rfl⟩
    · next hk =>
      obtain ⟨reg, n, rfl, hn, rfl⟩ := decodeReadRegister_ok h
      exact ⟨by simpa [Instr.wellFormed] using hn, by rw [hlead hk]; rfl⟩
    · next hk =>
      obtain ⟨a, d, rfl, rfl⟩ := decodeSend_ok h
      exact ⟨rfl, by rw [hlead hk]; rfl⟩
    · next hk =>
      obtain ⟨a, d, rfl, rfl⟩ := decodeQuery_ok h
      exact ⟨rfl, by rw [hlead hk]; rfl⟩
    · next hk =>
      obtain ⟨b, rfl, rfl⟩ := decodeDecodeStatus_ok h
      exact ⟨rfl, by rw [hlead hk]; rfl⟩
    · cases h

/-- R70: an address byte that decodes encodes back to itself. -/
theorem decodeAddressByte_ok {a : Byte} {i : Instr} (h : decodeAddressByte a = .ok i) :
    i.wellFormed = true ∧ encode i = ⟨.addressByte, [a]⟩ := by
  have hbyte : classify a ≠ .notProduced → (classify a).byte? = some a := byte_classify
  unfold decodeAddressByte at h
  split at h
  case h_4 => cases h
  all_goals
    next hform =>
    cases h
    rw [hform] at hbyte
    cases hbyte nofun
    exact ⟨rfl, rfl⟩

theorem decodeRead_wellFormed {n : Byte} (reg : Byte) (hn : n ≠ 0) : (decodeRead reg n).wellFormed = true := by
  unfold decodeRead
  split
  · rfl
  · split
    · rfl
    · split
      · rfl
      · simpa [Instr.wellFormed] using hn

theorem decodeWrite_ok {reg : Byte} {payload : List Byte} {i : Instr} (h : decodeWrite reg payload = .ok i) :
    i.wellFormed = true := by
  unfold decodeWrite at h
  split at h
  · cases h
  · cases h; split <;> rfl
  · cases h
    split
    · rfl
    · split <;> rfl
  · cases h; rfl

/-- R75: a transaction that decodes has a length of at least 1. -/
theorem decodeTransaction_ok {direction : Byte} {rest : List Byte} {i : Instr} (h : decodeTransaction direction rest = .ok i) :
    i.wellFormed = true := by
  unfold decodeTransaction at h
  split at h
  · split at h
    · split at h
      · next hlen =>
        cases h
        exact decodeRead_wellFormed _ (lengthCode_of_lengthOf hlen).1
      · cases h
    · cases h
  · split at h
    · split at h
      · cases h
      · exact decodeWrite_ok h
    · cases h

/-! ### Calls outside the enumerations -/

/-- R77: the operand byte of a Selector names one of three members. -/
theorem selectorOf_eq_none {b : Byte} (h : 2 < b.toNat) : selectorOf b = none := by
  cases hsel : selectorOf b with
  | none => rfl
  | some sel => cases sel <;> simp [← selectorCode_of_selectorOf hsel, selectorCode] at h

/-- R77: the operand byte of a Mode names one of two members. -/
theorem modeOf_eq_none {b : Byte} (h : 1 < b.toNat) : modeOf b = none := by
  cases hmode : modeOf b with
  | none => rfl
  | some mode => cases mode <;> simp [← modeBit_of_modeOf hmode, modeBit] at h

theorem decodeEncodeAddress_of_unnamed {sel mode : Byte} (target : Byte) (h : selectorOf sel = none ∨ modeOf mode = none) :
    decodeEncodeAddress [sel, target, mode] = .error .notInEnumeration := by
  obtain h | h := h
  · simp only [decodeEncodeAddress, h]
  · cases hsel : selectorOf sel <;> simp only [decodeEncodeAddress, hsel, h]

/-- R77: selectors 6 and 7 name no operation. -/
theorem decodeOperation_of_unnamed {lead : Byte} (operands : List Byte) (h : lead = 6 ∨ lead = 7) :
    decodeOperation lead operands = .error .noSuchSelector := by
  obtain rfl | rfl := h <;> rfl

/-! ### The obligations -/

/-- Settles O33, by the constructors of the instruction: each row's encoding is read by its own arm of the decoder. -/
theorem decodeEncodeAgree : Obligations.DecodeEncodeAgree := by
  intro i hwf
  cases i with
  | encodeAddress sel target mode => exact decode_encode_encodeAddress sel target mode
  | writeRegister reg payload => exact decode_encode_writeRegister reg (by simpa [Instr.wellFormed] using hwf)
  | readRegister reg length => exact decode_encode_readRegister reg (by simpa [Instr.wellFormed] using hwf)
  | send address data => rfl
  | query address data => rfl
  | decodeStatus b => rfl
  | addrShort target mode => exact decode_encode_addrShort target mode
  | addrGroup group mode => exact decode_encode_addrGroup group mode
  | addrBroadcast mode => exact decode_encode_addrBroadcast mode
  | rdStatus => rfl
  | wrCommand address data => rfl
  | rdReply => rfl
  | wrConfig b => rfl
  | rdSignature => rfl
  | wrI2cAddr b0 b1 => rfl

/-- Settles O34, by the format of the call. -/
theorem decodedCallsAreWellFormed : Obligations.DecodedCallsAreWellFormed := by
  intro ⟨format, bytes⟩ i h
  match format, bytes with
  | .operation, lead :: operands =>
    obtain ⟨hwf, henc⟩ := decodeOperation_ok h
    exact ⟨hwf, fun _ => henc⟩
  | .addressByte, [a] =>
    obtain ⟨hwf, henc⟩ := decodeAddressByte_ok h
    exact ⟨hwf, fun _ => henc⟩
  | .transaction, direction :: rest => exact ⟨decodeTransaction_ok h, fun hf => by simp at hf⟩
  | .operation, [] => cases h
  | .addressByte, [] => cases h
  | .addressByte, _ :: _ :: _ => cases h
  | .transaction, [] => cases h

/-- Settles O32: the operations by their selector arms, the address bytes by the forms they encode. -/
theorem sampleCallsDecode : Obligations.SampleCallsDecode :=
  ⟨rfl, rfl, rfl, rfl, rfl, decode_encode_addrShort 5 .dapc, decode_encode_addrGroup 15 .command, decode_encode_addrBroadcast .dapc⟩

end Sys2Proof

/-! SUPPORT. The status byte as a sum of weights (spec/43_status_interpreter.md R133) and the handshake class by value (R132). -/

namespace Sys2Proof.Machine

theorem flagMask_toNat {i : Nat} (flag : Bool) (hi : i < 8) : (flagMask flag i).toNat = flag.toNat * 2 ^ i := by
  cases flag with
  | false => simp [flagMask]
  | true =>
    have hlt : 2 ^ i < 2 ^ 8 := Nat.pow_lt_pow_right (by omega) hi
    simpa [flagMask, BitVec.toNat_shiftLeft, Nat.shiftLeft_eq] using hlt

/-- R133: the weights are distinct powers of two below 256, so the sum loses nothing. -/
theorem encodeStatus_toNat (f : StatusByte) :
    (encodeStatus f).toNat =
      f.oneByteReply.toNat + f.twoByteReply.toNat * 2 + f.frameTimeframeError.toNat * 4 + f.replyValid.toNat * 8 +
        f.frameError.toNat * 16 + f.overrun.toNat * 32 + f.busy.toNat * 64 + f.busFault.toNat * 128 := by
  have h0 := Bool.toNat_le f.oneByteReply
  have h1 := Bool.toNat_le f.twoByteReply
  have h2 := Bool.toNat_le f.frameTimeframeError
  have h3 := Bool.toNat_le f.replyValid
  have h4 := Bool.toNat_le f.frameError
  have h5 := Bool.toNat_le f.overrun
  have h6 := Bool.toNat_le f.busy
  have h7 := Bool.toNat_le f.busFault
  simp (disch := omega) only [encodeStatus, BitVec.toNat_add, flagMask_toNat]
  omega

/-- A bit of a number is a flag when the number's parity, divided by the bit's weight, is the flag's. -/
theorem byte_getLsbD_eq_of_toNat {b : Byte} {i : Nat} {flag : Bool} (h : b.toNat / 2 ^ i % 2 = flag.toNat) :
    b.getLsbD i = flag := by
  rw [byte_getLsbD_eq_decide, h]
  cases flag <;> rfl

theorem encodeStatus_decodeStatus (b : Byte) : encodeStatus (decodeStatus b) = b := by
  apply BitVec.eq_of_toNat_eq
  rw [encodeStatus_toNat]
  simp only [decodeStatus, byte_getLsbD_toNat]
  omega

theorem decodeStatus_encodeStatus (f : StatusByte) : decodeStatus (encodeStatus f) = f := by
  obtain ⟨b0, b1, b2, b3, b4, b5, b6, b7⟩ := f
  have hsum := encodeStatus_toNat ⟨b0, b1, b2, b3, b4, b5, b6, b7⟩
  have h0 := Bool.toNat_le b0
  have h1 := Bool.toNat_le b1
  have h2 := Bool.toNat_le b2
  have h3 := Bool.toNat_le b3
  have h4 := Bool.toNat_le b4
  have h5 := Bool.toNat_le b5
  have h6 := Bool.toNat_le b6
  have h7 := Bool.toNat_le b7
  simp only at hsum
  rw [decodeStatus, StatusByte.mk.injEq]
  refine ⟨?_, ?_, ?_, ?_, ?_, ?_, ?_, ?_⟩ <;> apply byte_getLsbD_eq_of_toNat <;> omega

/-! ### The obligations -/

/-- Settles O9: the flags are the binary digits of the byte. -/
theorem statusByteRoundTrip : Obligations.StatusByteRoundTrip :=
  ⟨encodeStatus_decodeStatus, decodeStatus_encodeStatus⟩

/-- Settles O10: the class is told by bits 6 and 7, the two highest binary digits of the byte. -/
theorem handshakeClassByByte : Obligations.HandshakeClassByByte := by
  intro b
  have hb := b.isLt
  simp only [hsClass_decodeStatus_busy, hsClass_decodeStatus_faulted, hsClass_decodeStatus_ready, readyByte,
    byte_getLsbD_eq_decide, decide_eq_true_eq, decide_eq_false_iff_not]
  refine ⟨?_, ?_, ?_⟩ <;> omega

/-- Settles O53: a transport error has one code, bare or wrapped, and the list names every constructor. -/
theorem errorCodesAreTheTable : Obligations.ErrorCodesAreTheTable := by
  refine ⟨rfl, ⟨rfl, fun e => ?_⟩, fun e => ⟨rfl, rfl⟩⟩
  cases e with
  | transport e => cases e <;> simp
  | busFault => simp
  | timeout => simp
  | noReply => simp
  | frameError => simp
  | overrun => simp

end Sys2Proof.Machine

/-! SUPPORT. Raw transport calls (spec/41_register_transport.md R92, R93, R97): what an idle engine performs, what is refused, and that
a transaction's outcome is what the environment answers. -/

namespace Sys2Proof.Machine

theorem rawWrite_idle {s : State} (reg : Byte) (payload : List Byte) (h : s.phase = .idle) :
    rawWrite reg payload s = .next ((s.afterWrite reg payload).give (.written s.writeOutcome)) := by
  rw [rawWrite, whenIdle_idle h]

theorem rawRead_idle {s : State} (reg : Byte) (n : Nat) (h : s.phase = .idle) :
    rawRead reg n s = .next ((s.afterRead reg n).give (.bytesRead (s.readOutcome n))) := by
  rw [rawRead, whenIdle_idle h]

theorem rawWrite_in_flight {s : State} (reg : Byte) (payload : List Byte) (h : s.phase ≠ .idle) :
    rawWrite reg payload s = .refused .operationInFlight :=
  whenIdle_busy h _

theorem rawRead_in_flight {s : State} (reg : Byte) (n : Nat) (h : s.phase ≠ .idle) :
    rawRead reg n s = .refused .operationInFlight :=
  whenIdle_busy h _

/-- R92: a write with a payload is the raw write. -/
theorem exec_writeRegister {payload : List Byte} (reg : Byte) (s : State) (h : payload ≠ []) :
    exec (.writeRegister reg payload) s = rawWrite reg payload s :=
  if_neg (by simpa using h)

/-- R93: a read of at least one byte is the raw read. -/
theorem exec_readRegister {n : Byte} (reg : Byte) (s : State) (h : n ≠ 0) :
    exec (.readRegister reg n) s = rawRead reg n.toNat s :=
  if_neg h

/-! ### The obligations -/

/-- Settles O11: an idle engine passes the guard in front of both raw calls. -/
theorem rawTransportCallIsOneTransaction : Obligations.RawTransportCallIsOneTransaction := by
  refine fun s reg hidle => ⟨fun payload h => ?_, fun n h => ?_⟩
  · rw [exec_writeRegister reg s h, rawWrite_idle reg payload hidle]; rfl
  · rw [exec_readRegister reg s h, rawRead_idle reg n.toNat hidle]; rfl

/-- Settles O12: the length is looked at before the phase. -/
theorem zeroLengthTransactionIsRefused : Obligations.ZeroLengthTransactionIsRefused := fun _ _ =>
  ⟨rfl, rfl⟩

/-- Settles O13: each read of the map is a raw read of its register and size. -/
theorem registerMapReadsComplete : Obligations.RegisterMapReadsComplete := fun _ hidle =>
  ⟨rawRead_idle regStatus 1 hidle, rawRead_idle regCommand 1 hidle, rawRead_idle regSignature signatureSize hidle⟩

/-- Settles O14: each write of the map is a raw write of its register and payload. -/
theorem registerMapWritesComplete : Obligations.RegisterMapWritesComplete := fun _ x y hidle =>
  ⟨rawWrite_idle regCommand (commandPayload ⟨x, y⟩) hidle, rawWrite_idle regConfig [x] hidle, rawWrite_idle regI2cAddr [x, y] hidle⟩

/-- Settles O15: every raw call stands behind the guard that only an idle engine passes. -/
theorem rawCallInFlightIsRefused : Obligations.RawCallInFlightIsRefused := by
  intro s i hphase hwf hraw
  obtain ⟨reg, payload, rfl⟩ | ⟨reg, n, rfl⟩ | rfl | ⟨a, d, rfl⟩ | rfl | ⟨b, rfl⟩ | rfl | ⟨b, c, rfl⟩ := hraw
  · rw [exec_writeRegister reg s (by simpa [Instr.wellFormed] using hwf), rawWrite_in_flight reg payload hphase]
  · rw [exec_readRegister reg s (by simpa [Instr.wellFormed] using hwf), rawRead_in_flight reg n.toNat hphase]
  · exact rawRead_in_flight regStatus 1 hphase
  · exact rawWrite_in_flight regCommand (commandPayload ⟨a, d⟩) hphase
  · exact rawRead_in_flight regCommand 1 hphase
  · exact rawWrite_in_flight regConfig [b] hphase
  · exact rawRead_in_flight regSignature signatureSize hphase
  · exact rawWrite_in_flight regI2cAddr [b, c] hphase

/-- Settles O16: a listed answer is the outcome, and an answer of another length than asked for is none. -/
theorem transactionOutcomesAreFreeDraws : Obligations.TransactionOutcomesAreFreeDraws :=
  ⟨fun _ _ _ h => readOutcome_length h, fun _ _ => readOutcome_of_ok rfl, fun _ n _ => readOutcome_of_err n rfl,
    fun _ => writeOutcome_of_ok rfl, fun _ _ => writeOutcome_of_err rfl⟩

end Sys2Proof.Machine

/-! SUPPORT. Construction and the step in Idle (spec/00_scope.md R11, spec/70_reset_and_hazards.md R154, spec/30_encoding.md R77, R79): when
the parameters are refused, and how a step takes the caller's next call. -/

namespace Sys2Proof.Machine

/-- R11: a bound of at least 1 and a 7-bit address. -/
theorem parametersWellFormed_iff (g : Byte) (m : Nat) : parametersWellFormed g m = true ↔ 1 ≤ m ∧ g.toNat ≤ 0x7F := by
  cases m with
  | zero => simp [parametersWellFormed]
  | succ m => simp [parametersWellFormed, BitVec.le_def]

theorem parametersWellFormed_eq_false {g : Byte} {m : Nat} (h : m = 0 ∨ 0x7F < g.toNat) : parametersWellFormed g m = false := by
  rw [← Bool.not_eq_true, parametersWellFormed_iff]; omega

theorem step_of_illFormed {s : State} (h : parametersWellFormed s.gatewayAddr s.maxPolls = false) :
    step s = .refused .illFormedParameters := by
  simp only [step, h]

theorem step_of_idle {s : State} (hp : s.ParametersOk) (h : s.phase = .idle) : step s = callStep s := by
  simp only [step, hp, h]

theorem callStep_of_nil {s : State} (h : s.pending = []) : callStep s = .next s := by
  simp only [callStep, State.takeCall, h]

theorem callStep_of_ok {s : State} {c : Call} {rest : List Call} {i : Instr} (h : s.pending = c :: rest) (hd : decode c = .ok i) :
    callStep s = exec i { s with pending := rest } := by
  simp only [callStep, State.takeCall, h, hd]

theorem callStep_of_error {s : State} {c : Call} {rest : List Call} {e : DecodeRefusal} (h : s.pending = c :: rest)
    (hd : decode c = .error e) : callStep s = .refused (.undecodable e) := by
  simp only [callStep, State.takeCall, h, hd]

/-- R27: construction leaves no engine register set. -/
theorem constructed_registersUnset (g : Byte) (m : Nat) : (State.constructed g m).RegistersUnset :=
  ⟨rfl, rfl, rfl, rfl, rfl, rfl⟩

theorem reset_parametersOk : State.reset.ParametersOk :=
  (parametersWellFormed_iff _ _).2 ⟨Nat.succ_pos _, by decide⟩

/-! ### Register readers of an unset register -/

theorem readOp_of_none {s : State} (h : s.op = none) (k : Op → Outcome) : s.readOp k = .fault (.unsetRegister .op) := by
  simp [State.readOp, h]

theorem readCmd_of_none {s : State} (h : s.cmd = none) (k : DaliCommand → Outcome) :
    s.readCmd k = .fault (.unsetRegister .cmd) := by
  simp [State.readCmd, h]

theorem readPolls_of_none {s : State} (h : s.polls = none) (k : Nat → Outcome) :
    s.readPolls k = .fault (.unsetRegister .polls) := by
  simp [State.readPolls, h]

theorem readCaptured_of_none {s : State} (h : s.captured = none) (k : StatusByte → Outcome) :
    s.readCaptured k = .fault (.unsetRegister .captured) := by
  simp [State.readCaptured, h]

theorem readResult_of_none {s : State} (h : s.result = none) (k : EngineResult → Outcome) :
    s.readResult k = .fault (.unsetRegister .result) := by
  simp [State.readResult, h]

/-! ### The obligations -/

/-- Settles O26: the step of each phase begins, or goes on after its read, at the reader of the register that is unset. -/
theorem unsetRegisterReadFaults : Obligations.UnsetRegisterReadFaults := by
  refine fun s hp => ⟨fun hissue hc => ?_, fun hwait hpolls => ?_, fun hdone hr => ?_, fun v rest hfetch hcap hans => ?_,
    fun p b rest hwait hpolls hlt hop hans hready => ?_⟩
  · rw [step_of_issue hp hissue, issueStep, readCmd_of_none hc]
  · rw [step_of_wait hp hwait, waitStep, readPolls_of_none hpolls]
  · rw [step_of_done hp hdone, doneStep, readResult_of_none hr]
  · have hread : s.readOutcome 1 = .ok [v] := readOutcome_of_ok hans
    rw [step_of_fetch hp hfetch]
    simp only [fetchStep, hread, readCaptured_of_none hcap]
  · rw [step_poll_of_ok hp hwait hpolls hlt (readOutcome_of_ok hans)]
    simp only [settlePoll, hsClass_decodeStatus_ready.2 hready]
    exact readOp_of_none hop _

/-- Settles O27. A step does not ask whether the instruction is well-formed: the decoder answers no other. -/
theorem stepRunsTheDecodedCall : Obligations.StepRunsTheDecodedCall := by
  intro s c rest i hp hidle hpending hd _
  rw [step_of_idle hp hidle, callStep_of_ok hpending hd]

/-- Settles O28: with no call pending the Idle step answers the state it was given. -/
theorem idleWaitsForACall : Obligations.IdleWaitsForACall := by
  intro s hp hidle hpending
  rw [step_of_idle hp hidle, callStep_of_nil hpending]

/-- Settles O29: the decoder refuses by name, and the step passes the name on. -/
theorem unnamedSelectorsAreRefused : Obligations.UnnamedSelectorsAreRefused := by
  refine ⟨fun s lead operands rest hp hidle hlead hpending => ?_, fun sel target mode h => ?_, fun sel => ?_, fun m => ?_⟩
  · rw [step_of_idle hp hidle]
    exact callStep_of_error hpending (decodeOperation_of_unnamed operands hlead)
  · exact decodeEncodeAddress_of_unnamed target (h.imp selectorOf_eq_none modeOf_eq_none)
  · cases sel <;> simp
  · cases m <;> simp

/-- Settles O30: construction and step look at the parameters first. -/
theorem illFormedParametersAreRefused : Obligations.IllFormedParametersAreRefused := by
  refine fun s g m => ⟨fun h => step_of_illFormed (parametersWellFormed_eq_false h), fun h => ?_, fun hm hg => ?_⟩
  · rw [construct, parametersWellFormed_eq_false h, if_neg Bool.false_ne_true]
  · rw [construct, if_pos ((parametersWellFormed_iff g m).2 ⟨hm, hg⟩)]

/-- Settles O31: reset is a construction, and its idle engine accepts an operation. -/
theorem resetLeavesTheEngineIdle : Obligations.ResetLeavesTheEngineIdle :=
  ⟨fun g m => ⟨rfl, constructed_registersUnset g m, rfl, rfl⟩, rfl, constructed_registersUnset _ _, rfl, Nat.succ_pos _,
    fun a d => (acceptLoadsTheOperation State.reset a d rfl).1, fun a d => (acceptLoadsTheOperation State.reset a d rfl).2⟩

/-- Settles O35: an idle engine with nothing set is coherent. -/
theorem resetIsCoherent : Obligations.ResetIsCoherent :=
  ⟨reset_parametersOk, constructed_registersUnset _ _⟩

end Sys2Proof.Machine

/-! SUPPORT. What a step may do to the boundary with the caller and the environment (spec/20_memory.md sections 1, 3 and 5): its parameters,
its calls, its results and its transactions. A state in flight is compared with another by `State.toIdle`, which forgets the engine's
registers and keeps the boundary. -/

namespace Sys2Proof.Machine

/-! ### States with one boundary -/

section
variable {s t : State}

theorem gatewayAddr_eq_of_toIdle (h : s.toIdle = t.toIdle) : s.gatewayAddr = t.gatewayAddr := (congrArg State.gatewayAddr h :)

theorem maxPolls_eq_of_toIdle (h : s.toIdle = t.toIdle) : s.maxPolls = t.maxPolls := (congrArg State.maxPolls h :)

theorem pending_eq_of_toIdle (h : s.toIdle = t.toIdle) : s.pending = t.pending := (congrArg State.pending h :)

theorem delivered_eq_of_toIdle (h : s.toIdle = t.toIdle) : s.delivered = t.delivered := (congrArg State.delivered h :)

theorem answers_eq_of_toIdle (h : s.toIdle = t.toIdle) : s.answers = t.answers := (congrArg State.answers h :)

theorem draws_eq_of_toIdle (h : s.toIdle = t.toIdle) : s.draws = t.draws := (congrArg State.draws h :)

theorem trace_eq_of_toIdle (h : s.toIdle = t.toIdle) : s.trace = t.trace := (congrArg State.trace h :)

end

/-! ### Steps in flight -/

theorem pollStep_boundary {p : Nat} {s t : State} (h : pollStep p s = .next t) : t.toIdle = (s.afterRead regStatus 1).toIdle := by
  obtain ⟨e, -, rfl⟩ | ⟨b, -, hsettle⟩ := pollStep_next h
  · rfl
  · obtain ⟨-, rfl⟩ | ⟨-, rfl⟩ | ⟨-, -, rfl⟩ | ⟨-, -, rfl⟩ := settlePoll_next hsettle <;> rfl

/-- R37: on the boundary a step in flight does nothing, makes one of three transactions, or delivers the result. -/
theorem step_in_flight_boundary {s t : State} (hs : s.phase ≠ .idle) (h : step s = .next t) :
    t.toIdle = s.toIdle ∨ (∃ c, t.toIdle = (s.afterWrite regCommand (commandPayload c)).toIdle) ∨
      t.toIdle = (s.afterRead regStatus 1).toIdle ∨ t.toIdle = (s.afterRead regCommand 1).toIdle ∨
      s.phase = .done ∧ ∃ r, s.result = some r ∧ t = s.deliver r := by
  obtain ⟨-, ⟨hidle, -⟩ | ⟨-, hissue⟩ | ⟨-, hwait⟩ | ⟨-, hfetch⟩ | ⟨hphase, hdone⟩⟩ := step_next h
  · exact absurd hidle hs
  · obtain ⟨c, -, ⟨-, rfl⟩ | ⟨e, -, rfl⟩⟩ := issueStep_next hissue
    · exact .inr (.inl ⟨c, rfl⟩)
    · exact .inr (.inl ⟨c, rfl⟩)
  · obtain ⟨p, -, ⟨-, hpoll⟩ | ⟨-, rfl⟩⟩ := waitStep_next hwait
    · exact .inr (.inr (.inl (pollStep_boundary hpoll)))
    · exact .inl rfl
  · obtain ⟨e, -, rfl⟩ | ⟨b, st, -, -, rfl⟩ := fetchStep_next hfetch
    · exact .inr (.inr (.inr (.inl rfl)))
    · exact .inr (.inr (.inr (.inl rfl)))
  · exact .inr (.inr (.inr (.inr ⟨hphase, doneStep_next hdone⟩)))

/-! ### The frame of every step -/

/-- What a step may change of the parameters and of the boundary. -/
structure StepFrame (s t : State) : Prop where
  gatewayAddr : t.gatewayAddr = s.gatewayAddr
  maxPolls : t.maxPolls = s.maxPolls
  pending : t.pending = s.pending ∨ ∃ c, s.pending = c :: t.pending
  delivered : t.delivered = s.delivered ∨ ∃ r, t.delivered = s.delivered ++ [r]
  transactions : (t.trace = s.trace ∧ t.answers = s.answers ∧ t.draws = s.draws) ∨
    ∃ tr o, t.trace = s.trace ++ [⟨s.gatewayAddr, tr, o⟩] ∧ t.answers = s.answers.tail ∧ t.draws = s.draws + 1

theorem StepFrame.refl (s : State) : StepFrame s s :=
  ⟨rfl, rfl, .inl rfl, .inl rfl, .inl ⟨rfl, rfl, rfl⟩⟩

theorem StepFrame.perform (s : State) (tr : Transaction) (o : Answer) : StepFrame s (s.perform tr o) :=
  ⟨rfl, rfl, .inl rfl, .inl rfl, .inr ⟨tr, o, rfl, rfl, rfl⟩⟩

theorem StepFrame.deliver (s : State) (r : EngineResult) : StepFrame s (s.deliver r) :=
  ⟨rfl, rfl, .inl rfl, .inr ⟨.engine r, rfl⟩, .inl ⟨rfl, rfl, rfl⟩⟩

/-- The frame speaks of the boundary only, so it does not see the engine's registers. -/
theorem StepFrame.of_toIdle {s t u : State} (h : t.toIdle = u.toIdle) (hu : StepFrame s u) : StepFrame s t where
  gatewayAddr := (gatewayAddr_eq_of_toIdle h).trans hu.gatewayAddr
  maxPolls := (maxPolls_eq_of_toIdle h).trans hu.maxPolls
  pending := pending_eq_of_toIdle h ▸ hu.pending
  delivered := delivered_eq_of_toIdle h ▸ hu.delivered
  transactions := by
    rw [trace_eq_of_toIdle h, answers_eq_of_toIdle h, draws_eq_of_toIdle h]
    exact hu.transactions

/-- R79: a call is taken from the front of the calls pending, and its instruction does one thing on the boundary. -/
theorem StepFrame.of_exec {s t : State} {c : Call} {rest : List Call} {i : Instr} (hpending : s.pending = c :: rest)
    (h : exec i { s with pending := rest } = .next t) : StepFrame s t := by
  obtain ⟨r, rfl, -⟩ | ⟨-, reg, payload, rfl⟩ | ⟨-, reg, n, rfl⟩ | ⟨-, o, cmd, rfl⟩ := exec_next h
  · exact ⟨rfl, rfl, .inr ⟨c, hpending⟩, .inr ⟨r, rfl⟩, .inl ⟨rfl, rfl, rfl⟩⟩
  · exact ⟨rfl, rfl, .inr ⟨c, hpending⟩, .inr ⟨_, rfl⟩, .inr ⟨_, _, rfl, rfl, rfl⟩⟩
  · exact ⟨rfl, rfl, .inr ⟨c, hpending⟩, .inr ⟨_, rfl⟩, .inr ⟨_, _, rfl, rfl, rfl⟩⟩
  · exact ⟨rfl, rfl, .inr ⟨c, hpending⟩, .inl rfl, .inl ⟨rfl, rfl, rfl⟩⟩

theorem callStep_frame {s t : State} (h : callStep s = .next t) : StepFrame s t := by
  obtain ⟨-, rfl⟩ | ⟨c, rest, i, hpending, -, hexec⟩ := callStep_next h
  · exact .refl t
  · exact .of_exec hpending hexec

theorem step_frame {s t : State} (h : step s = .next t) : StepFrame s t := by
  by_cases hs : s.phase = .idle
  · rw [step_of_idle (step_next h).1 hs] at h
    exact callStep_frame h
  · obtain hnone | ⟨c, hwrite⟩ | hpoll | hreply | ⟨-, r, -, rfl⟩ := step_in_flight_boundary hs h
    · exact .of_toIdle hnone (.refl s)
    · exact .of_toIdle hwrite (.perform s _ _)
    · exact .of_toIdle hpoll (.perform s _ _)
    · exact .of_toIdle hreply (.perform s _ _)
    · exact .deliver s r

/-! ### Results delivered -/

/-- A step in flight returns nothing, or the result of the operation that is done. -/
theorem step_in_flight_delivered {s t : State} (hs : s.phase ≠ .idle) (h : step s = .next t) :
    t.delivered = s.delivered ∨ s.phase = .done ∧ ∃ r, s.result = some r ∧ t = s.deliver r := by
  obtain hnone | ⟨c, hwrite⟩ | hpoll | hreply | hdone := step_in_flight_boundary hs h
  · exact .inl (delivered_eq_of_toIdle hnone)
  · exact .inl ((delivered_eq_of_toIdle hwrite).trans rfl)
  · exact .inl ((delivered_eq_of_toIdle hpoll).trans rfl)
  · exact .inl ((delivered_eq_of_toIdle hreply).trans rfl)
  · exact .inr hdone

theorem give_eq_of_delivered {s u : State} {r x : CallResult} (hu : u.delivered = s.delivered)
    (h : (u.give r).delivered = s.delivered ++ [x]) : r = x := by
  simpa [hu] using h

theorem rawWrite_delivered_ne_address {reg : Byte} {payload : List Byte} {s t : State} {a : Result CodecError Byte}
    (h : rawWrite reg payload s = .next t) : t.delivered ≠ s.delivered ++ [.address a] := by
  obtain ⟨-, rfl⟩ := rawWrite_next h
  intro hd
  cases give_eq_of_delivered rfl hd

theorem rawRead_delivered_ne_address {reg : Byte} {n : Nat} {s t : State} {a : Result CodecError Byte}
    (h : rawRead reg n s = .next t) : t.delivered ≠ s.delivered ++ [.address a] := by
  obtain ⟨-, rfl⟩ := rawRead_next h
  intro hd
  cases give_eq_of_delivered rfl hd

/-- R135: of all instructions only ENCODE_ADDRESS returns InvalidTarget, and it does nothing else. -/
theorem exec_delivers_invalidTarget {i : Instr} {s t : State} (h : exec i s = .next t)
    (hd : t.delivered = s.delivered ++ [.address (.err .invalidTarget)]) :
    ∃ sel target mode, i = .encodeAddress sel target mode ∧ t = s.give (.address (.err .invalidTarget)) := by
  cases i with
  | encodeAddress sel target mode =>
    cases h
    exact ⟨sel, target, mode, rfl, congrArg s.give (give_eq_of_delivered rfl hd)⟩
  | writeRegister reg payload =>
    by_cases hp : payload = []
    · subst hp; cases h
    · exact absurd hd (rawWrite_delivered_ne_address (exec_writeRegister reg s hp ▸ h))
  | readRegister reg n =>
    by_cases hn : n = 0
    · subst hn; cases h
    · exact absurd hd (rawRead_delivered_ne_address (exec_readRegister reg s hn ▸ h))
  | send a d => obtain ⟨-, rfl⟩ := exec_send_next h; simp at hd
  | query a d => obtain ⟨-, rfl⟩ := exec_query_next h; simp at hd
  | decodeStatus b => cases h; cases give_eq_of_delivered rfl hd
  | addrShort target mode => cases (exec_addrShort target mode s).symm.trans h; cases give_eq_of_delivered rfl hd
  | addrGroup group mode => cases (exec_addrGroup group mode s).symm.trans h; cases give_eq_of_delivered rfl hd
  | addrBroadcast mode => cases h; cases give_eq_of_delivered rfl hd
  | rdStatus => exact absurd hd (rawRead_delivered_ne_address h)
  | wrCommand a d => exact absurd hd (rawWrite_delivered_ne_address h)
  | rdReply => exact absurd hd (rawRead_delivered_ne_address h)
  | wrConfig b => exact absurd hd (rawWrite_delivered_ne_address h)
  | rdSignature => exact absurd hd (rawRead_delivered_ne_address h)
  | wrI2cAddr b0 b1 => exact absurd hd (rawWrite_delivered_ne_address h)

/-! ### The obligations -/

/-- Settles O39, by the frame of a step. -/
theorem parametersNeverChange : Obligations.ParametersNeverChange := fun _ _ h =>
  ⟨(step_frame h).gatewayAddr, (step_frame h).maxPolls, (step_frame h).pending, (step_frame h).delivered⟩

/-- Settles O40, by the frame of a step. -/
theorem oneTransactionPerStep : Obligations.OneTransactionPerStep := fun _ _ h =>
  (step_frame h).transactions

/-- Settles O41, by the five things a step in flight may do on the boundary. -/
theorem engineIssuesThreeKindsOfTransaction : Obligations.EngineIssuesThreeKindsOfTransaction := by
  intro s t hs h
  obtain hnone | ⟨c, hwrite⟩ | hpoll | hreply | ⟨-, r, -, rfl⟩ := step_in_flight_boundary hs h
  · exact .inl (trace_eq_of_toIdle hnone)
  · exact .inr ⟨_, trace_eq_of_toIdle hwrite, .inl ⟨c.address, c.data, rfl⟩⟩
  · exact .inr ⟨_, trace_eq_of_toIdle hpoll, .inr (.inl rfl)⟩
  · exact .inr ⟨_, trace_eq_of_toIdle hreply, .inr (.inr rfl)⟩
  · exact .inl rfl

/-- Settles O43: a step in flight returns an engine's result or none, and in Idle only ENCODE_ADDRESS returns an address error. -/
theorem onlyEncodeAddressIsInvalidTarget : Obligations.OnlyEncodeAddressIsInvalidTarget := by
  intro s t h hd
  by_cases hs : s.phase = .idle
  · rw [step_of_idle (step_next h).1 hs] at h
    obtain ⟨-, rfl⟩ | ⟨c, rest, i, hpending, hdec, hexec⟩ := callStep_next h
    · simp at hd
    · obtain ⟨sel, target, mode, rfl, ht⟩ := exec_delivers_invalidTarget hexec hd
      exact ⟨c, rest, sel, target, mode, hs, hpending, hdec, ht⟩
  · obtain hsame | ⟨-, r, -, rfl⟩ := step_in_flight_delivered hs h
    · simp [hsame] at hd
    · simp at hd

end Sys2Proof.Machine

/-! SUPPORT. The history of a state, its transactions made and its results returned, is read by no rule (spec/10_state.md section 2): a
step from a state with an earlier history put before its own is the step without it, with that history put before the result's. -/

namespace Sys2Proof.Machine

/-- The state with an earlier history put before its own. -/
def State.afterHistory (s : State) (trace : List Event) (delivered : List CallResult) : State :=
  { s with trace := trace ++ s.trace, delivered := delivered ++ s.delivered }

/-- The state with no history. -/
def State.fresh (s : State) : State :=
  { s with trace := [], delivered := [] }

theorem State.fresh_afterHistory (s : State) (tr : List Event) (d : List CallResult) :
    s.fresh.afterHistory tr d = { s with trace := tr, delivered := d } := by
  simp [State.fresh, State.afterHistory]

/-- An answer with its next state, if it has one, changed. -/
def mapNext (f : State → State) : Outcome → Outcome
  | .next s => .next (f s)
  | .fault r => .fault r
  | .refused r => .refused r

section
variable (s : State) (tr : List Event) (d : List CallResult)

/-! ### The updates that write the history -/

theorem State.perform_afterHistory (t : Transaction) (o : Answer) :
    (s.afterHistory tr d).perform t o = (s.perform t o).afterHistory tr d := by
  simp [State.perform, State.afterHistory]

theorem State.give_afterHistory (r : CallResult) : (s.afterHistory tr d).give r = (s.give r).afterHistory tr d := by
  simp [State.give, State.afterHistory]

theorem State.afterWrite_afterHistory (reg : Byte) (payload : List Byte) :
    (s.afterHistory tr d).afterWrite reg payload = (s.afterWrite reg payload).afterHistory tr d :=
  s.perform_afterHistory tr d _ _

theorem State.afterRead_afterHistory (reg : Byte) (n : Nat) :
    (s.afterHistory tr d).afterRead reg n = (s.afterRead reg n).afterHistory tr d :=
  s.perform_afterHistory tr d _ _

theorem State.deliver_afterHistory (r : EngineResult) : (s.afterHistory tr d).deliver r = (s.deliver r).afterHistory tr d :=
  congrArg State.toIdle (s.give_afterHistory tr d (.engine r))

/-! ### Instructions -/

theorem rawWrite_afterHistory (reg : Byte) (payload : List Byte) :
    rawWrite reg payload (s.afterHistory tr d) = mapNext (·.afterHistory tr d) (rawWrite reg payload s) := by
  by_cases hs : s.phase = .idle
  · rw [rawWrite_idle reg payload hs, rawWrite_idle (s := s.afterHistory tr d) reg payload hs, State.afterWrite_afterHistory,
      State.give_afterHistory]
    rfl
  · rw [rawWrite_in_flight reg payload hs, rawWrite_in_flight (s := s.afterHistory tr d) reg payload hs]
    rfl

theorem rawRead_afterHistory (reg : Byte) (n : Nat) :
    rawRead reg n (s.afterHistory tr d) = mapNext (·.afterHistory tr d) (rawRead reg n s) := by
  by_cases hs : s.phase = .idle
  · rw [rawRead_idle reg n hs, rawRead_idle (s := s.afterHistory tr d) reg n hs, State.afterRead_afterHistory,
      State.give_afterHistory]
    rfl
  · rw [rawRead_in_flight reg n hs, rawRead_in_flight (s := s.afterHistory tr d) reg n hs]
    rfl

theorem accept_afterHistory (op : Op) (c : DaliCommand) :
    ((s.afterHistory tr d).whenIdle fun s => .next (s.accept op c)) =
      mapNext (·.afterHistory tr d) (s.whenIdle fun s => .next (s.accept op c)) := by
  by_cases hs : s.phase = .idle
  · rw [whenIdle_idle hs, whenIdle_idle (s := s.afterHistory tr d) hs]
    rfl
  · rw [whenIdle_busy hs, whenIdle_busy (s := s.afterHistory tr d) hs]
    rfl

theorem give_next_afterHistory (r : CallResult) :
    (.next ((s.afterHistory tr d).give r) : Outcome) = mapNext (·.afterHistory tr d) (.next (s.give r)) :=
  congrArg Host.Outcome.next (s.give_afterHistory tr d r)

theorem exec_afterHistory (i : Instr) :
    exec i (s.afterHistory tr d) = mapNext (·.afterHistory tr d) (exec i s) := by
  cases i with
  | encodeAddress sel target mode => exact give_next_afterHistory s tr d _
  | writeRegister reg payload =>
    by_cases hp : payload = []
    · subst hp; rfl
    · rw [exec_writeRegister reg s hp, exec_writeRegister reg _ hp, rawWrite_afterHistory]
  | readRegister reg n =>
    by_cases hn : n = 0
    · subst hn; rfl
    · rw [exec_readRegister reg s hn, exec_readRegister reg _ hn, rawRead_afterHistory]
  | send address data => exact accept_afterHistory s tr d .send ⟨address, data⟩
  | query address data => exact accept_afterHistory s tr d .query ⟨address, data⟩
  | decodeStatus b => exact give_next_afterHistory s tr d _
  | addrShort target mode => exact give_next_afterHistory s tr d _
  | addrGroup group mode => exact give_next_afterHistory s tr d _
  | addrBroadcast mode => exact give_next_afterHistory s tr d _
  | rdStatus => exact rawRead_afterHistory s tr d regStatus 1
  | wrCommand address data => exact rawWrite_afterHistory s tr d regCommand _
  | rdReply => exact rawRead_afterHistory s tr d regCommand 1
  | wrConfig b => exact rawWrite_afterHistory s tr d regConfig _
  | rdSignature => exact rawRead_afterHistory s tr d regSignature signatureSize
  | wrI2cAddr b0 b1 => exact rawWrite_afterHistory s tr d regI2cAddr _

/-! ### Steps -/

theorem callStep_afterHistory :
    callStep (s.afterHistory tr d) = mapNext (·.afterHistory tr d) (callStep s) := by
  cases hp : s.pending with
  | nil => rw [callStep_of_nil hp, callStep_of_nil (s := s.afterHistory tr d) hp]; rfl
  | cons c rest =>
    cases hd : decode c with
    | ok i =>
      rw [callStep_of_ok hp hd, callStep_of_ok (s := s.afterHistory tr d) hp hd]
      exact exec_afterHistory { s with pending := rest } tr d i
    | error e => rw [callStep_of_error hp hd, callStep_of_error (s := s.afterHistory tr d) hp hd]; rfl

theorem issueStep_afterHistory :
    issueStep (s.afterHistory tr d) = mapNext (·.afterHistory tr d) (issueStep s) := by
  cases hc : s.cmd with
  | none => rw [issueStep, issueStep, readCmd_of_none hc, readCmd_of_none (s := s.afterHistory tr d) hc]; rfl
  | some c =>
    cases ho : s.writeOutcome with
    | ok u =>
      rw [issueStep_of_ok hc ho, issueStep_of_ok (s := s.afterHistory tr d) hc ho, State.perform_afterHistory]
      rfl
    | err e =>
      rw [issueStep_of_err hc ho, issueStep_of_err (s := s.afterHistory tr d) hc ho, State.perform_afterHistory]
      rfl

theorem settlePoll_afterHistory (st : StatusByte) :
    settlePoll st (s.afterHistory tr d) = mapNext (·.afterHistory tr d) (settlePoll st s) := by
  cases hst : hsClass st with
  | busy => rw [settlePoll_of_busy hst, settlePoll_of_busy hst]; rfl
  | faulted => rw [settlePoll_of_faulted hst, settlePoll_of_faulted hst]; rfl
  | ready =>
    cases ho : s.op with
    | none =>
      simp only [settlePoll, hst]
      rw [readOp_of_none ho, readOp_of_none (s := s.afterHistory tr d) ho]
      rfl
    | some o =>
      cases o with
      | send => rw [settlePoll_of_ready_send hst ho, settlePoll_of_ready_send (s := s.afterHistory tr d) hst ho]; rfl
      | query => rw [settlePoll_of_ready_query hst ho, settlePoll_of_ready_query (s := s.afterHistory tr d) hst ho]; rfl

theorem pollStep_afterHistory (p : Nat) :
    pollStep p (s.afterHistory tr d) = mapNext (·.afterHistory tr d) (pollStep p s) := by
  have hread : (s.afterHistory tr d).readOutcome 1 = s.readOutcome 1 := rfl
  cases ho : s.readOutcome 1 with
  | ok bs =>
    simp only [pollStep, hread, ho, State.afterRead_afterHistory]
    exact settlePoll_afterHistory ((s.afterRead regStatus 1).countPoll p _) tr d _
  | err e =>
    simp only [pollStep, hread, ho, State.afterRead_afterHistory]
    rfl

theorem waitStep_afterHistory :
    waitStep (s.afterHistory tr d) = mapNext (·.afterHistory tr d) (waitStep s) := by
  cases hp : s.polls with
  | none => rw [waitStep, waitStep, readPolls_of_none hp, readPolls_of_none (s := s.afterHistory tr d) hp]; rfl
  | some p =>
    rw [waitStep, waitStep, readPolls_of_some hp, readPolls_of_some (s := s.afterHistory tr d) hp]
    by_cases hlt : p < s.maxPolls
    · rw [if_pos hlt, if_pos (show p < (s.afterHistory tr d).maxPolls from hlt), pollStep_afterHistory]
    · rw [if_neg hlt, if_neg (show ¬ p < (s.afterHistory tr d).maxPolls from hlt)]
      rfl

theorem readCaptured_afterHistory {k k' : StatusByte → Outcome} (h : ∀ st, k' st = mapNext (·.afterHistory tr d) (k st)) :
    (s.afterHistory tr d).readCaptured k' = mapNext (·.afterHistory tr d) (s.readCaptured k) := by
  have hcap : (s.afterHistory tr d).captured = s.captured := rfl
  unfold State.readCaptured
  rw [hcap]
  split
  · exact h _
  · rfl
  · rfl

theorem fetchStep_afterHistory :
    fetchStep (s.afterHistory tr d) = mapNext (·.afterHistory tr d) (fetchStep s) := by
  have hread : (s.afterHistory tr d).readOutcome 1 = s.readOutcome 1 := rfl
  cases ho : s.readOutcome 1 with
  | err e =>
    simp only [fetchStep, hread, ho, State.afterRead_afterHistory]
    rfl
  | ok bs =>
    simp only [fetchStep, hread, ho, State.afterRead_afterHistory]
    exact readCaptured_afterHistory s tr d fun st => rfl

theorem doneStep_afterHistory :
    doneStep (s.afterHistory tr d) = mapNext (·.afterHistory tr d) (doneStep s) := by
  cases hr : s.result with
  | none => rw [doneStep, doneStep, readResult_of_none hr, readResult_of_none (s := s.afterHistory tr d) hr]; rfl
  | some r =>
    rw [doneStep, doneStep, readResult_of_some hr, readResult_of_some (s := s.afterHistory tr d) hr, State.deliver_afterHistory]
    rfl

/-- No rule reads the transactions made or the results returned (log 6), so an earlier history passes through every step. -/
theorem step_afterHistory : step (s.afterHistory tr d) = mapNext (·.afterHistory tr d) (step s) := by
  cases hp : parametersWellFormed s.gatewayAddr s.maxPolls with
  | false => rw [step_of_illFormed hp, step_of_illFormed (s := s.afterHistory tr d) hp]; rfl
  | true =>
    cases hs : s.phase with
    | idle => rw [step_of_idle hp hs, step_of_idle (s := s.afterHistory tr d) hp hs, callStep_afterHistory]
    | issue => rw [step_of_issue hp hs, step_of_issue (s := s.afterHistory tr d) hp hs, issueStep_afterHistory]
    | wait => rw [step_of_wait hp hs, step_of_wait (s := s.afterHistory tr d) hp hs, waitStep_afterHistory]
    | fetch => rw [step_of_fetch hp hs, step_of_fetch (s := s.afterHistory tr d) hp hs, fetchStep_afterHistory]
    | done => rw [step_of_done hp hs, step_of_done (s := s.afterHistory tr d) hp hs, doneStep_afterHistory]

end

/-- A step from any history is the step from none, with that history put before. -/
theorem step_with_history (s : State) (tr : List Event) (d : List CallResult) :
    step { s with trace := tr, delivered := d } = mapNext (·.afterHistory tr d) (step s.fresh) := by
  rw [← State.fresh_afterHistory, step_afterHistory]

/-! ### The obligation -/

/-- Settles O42: both steps are the step without history, so they add the same. -/
theorem historyDoesNotShow : Obligations.HistoryDoesNotShow := by
  intro s tr d
  have hs : step s = mapNext (·.afterHistory s.trace s.delivered) (step s.fresh) := step_with_history s s.trace s.delivered
  rw [hs, step_with_history s tr d]
  cases step s.fresh with
  | next t => exact ⟨t.trace, t.delivered, rfl, rfl, rfl⟩
  | fault f => rfl
  | refused r => rfl

end Sys2Proof.Machine

/-! SUPPORT. The machine's invariant (spec/10_state.md section 2, spec/42_command_engine.md section 3): every step of a coherent state leads
to a coherent state, and none faults. -/

namespace Sys2Proof.Machine

/-! ### Coherence of the states an operation passes through -/

theorem engineCoherent_of_idle {s : State} (h : s.phase = .idle) : s.EngineCoherent ↔ s.RegistersUnset := by
  simp only [State.EngineCoherent, h]

/-- R105: an accepted operation is coherent in Issue. -/
theorem accept_coherent {s : State} (o : Op) (c : DaliCommand) (h : s.RegistersUnset) : (s.accept o c).EngineCoherent := by
  obtain ⟨-, -, hhs, hpolls, -, hresult⟩ := h
  exact ⟨nofun, nofun, hhs, hpolls, rfl, hresult⟩

/-- R22: what a result asks of the registers when the operation ends with it. -/
theorem finish_coherent {s : State} {o : Op} {r : EngineResult} (hcmd : s.cmd ≠ none) (hcap : s.captured ≠ none)
    (hpolls : ∀ p, s.polls = some p → p ≤ s.maxPolls) (hop : s.op = some o) (hallowed : resultAllowed o r = true)
    (hready : needsReady r = true → s.hs = some .ready ∧ ∃ st, s.captured = some (some st) ∧ hsClass st = .ready)
    (htimeout : r = .err .timeout → s.hs = some .busy ∧ s.polls = some s.maxPolls)
    (hfault : r = .err .busFault → s.hs = some .faulted ∧ ∃ st, s.captured = some (some st) ∧ hsClass st = .faulted) :
    (s.finish r).EngineCoherent :=
  ⟨hcmd, hcap, hpolls, o, r, hop, rfl, hallowed, hready, htimeout, hfault⟩

/-- R144: a Transport error may end either operation in any phase in flight, and asks nothing of HS and POLLS. -/
theorem raise_transport_coherent {s : State} {o : Op} (e : TransportError) (hop : s.op = some o) (hcmd : s.cmd ≠ none)
    (hcap : s.captured ≠ none) (hpolls : ∀ p, s.polls = some p → p ≤ s.maxPolls) :
    (s.raise (.transport e)).EngineCoherent :=
  finish_coherent hcmd hcap hpolls hop (by cases o <;> rfl) nofun nofun nofun

/-- R113: whatever a QUERY's reply is read as, it is a result that only a ready-wait ended in Ready leads to. -/
theorem finish_interpret_coherent {s : State} {st : StatusByte} (v : Byte) (hop : s.op = some .query) (hcmd : s.cmd ≠ none)
    (hhs : s.hs = some .ready) (hcap : s.captured = some (some st)) (hst : hsClass st = .ready)
    (hpolls : ∀ p, s.polls = some p → p ≤ s.maxPolls) : (s.finish (interpret st v)).EngineCoherent := by
  have hcap' : s.captured ≠ none := by simp [hcap]
  have hready : s.hs = some .ready ∧ ∃ st, s.captured = some (some st) ∧ hsClass st = .ready := ⟨hhs, st, hcap, hst⟩
  obtain hr | hr | hr | hr := interpret_cases st v
  all_goals
    rw [hr]
    exact finish_coherent hcmd hcap' hpolls hop rfl (fun _ => hready) nofun nofun

/-! ### Each phase's step keeps coherence -/

theorem exec_coherent {i : Instr} {s t : State} (hs : s.EngineCoherent) (hidle : s.phase = .idle) (h : exec i s = .next t) :
    t.EngineCoherent := by
  have hunset := (engineCoherent_of_idle hidle).1 hs
  obtain ⟨r, rfl, -⟩ | ⟨-, reg, payload, rfl⟩ | ⟨-, reg, n, rfl⟩ | ⟨-, o, c, rfl⟩ := exec_next h
  · exact (engineCoherent_of_idle (s := s.give r) hidle).2 hunset
  · exact (engineCoherent_of_idle (s := (s.afterWrite reg payload).give _) hidle).2 hunset
  · exact (engineCoherent_of_idle (s := (s.afterRead reg n).give _) hidle).2 hunset
  · exact accept_coherent o c hunset

theorem callStep_coherent {s t : State} (hs : s.EngineCoherent) (hidle : s.phase = .idle) (h : callStep s = .next t) :
    t.EngineCoherent := by
  obtain ⟨-, rfl⟩ | ⟨c, rest, i, -, -, hexec⟩ := callStep_next h
  · exact hs
  · exact exec_coherent (s := { s with pending := rest }) hs hidle hexec

theorem issueStep_coherent {s t : State} (hs : s.EngineCoherent) (hissue : s.phase = .issue) (h : issueStep s = .next t) :
    t.EngineCoherent := by
  simp only [State.EngineCoherent, hissue] at hs
  obtain ⟨hop, hcmd, -, hpolls, hcap, hresult⟩ := hs
  obtain ⟨c, -, ⟨-, rfl⟩ | ⟨e, -, rfl⟩⟩ := issueStep_next h
  · exact ⟨hop, hcmd, rfl, hresult, 0, none, rfl, Nat.zero_le _, hcap, by simp, nofun⟩
  · obtain ⟨o, ho⟩ := Option.ne_none_iff_exists'.1 hop
    exact raise_transport_coherent (s := s.afterWrite regCommand (commandPayload c)) e ho hcmd (by simp [hcap]) (by simp [hpolls])

/-- R109, R110, R111: a status read by a poll within the bound leaves the wait, or ends it, coherent. -/
theorem settlePoll_coherent {s t : State} {st : StatusByte} {p : Nat} (hphase : s.phase = .wait) (hop : s.op ≠ none)
    (hcmd : s.cmd ≠ none) (hhs : s.hs = some .busy) (hresult : s.result = none) (hpolls : s.polls = some (p + 1))
    (hle : p + 1 ≤ s.maxPolls) (hcap : s.captured = some (some st)) (h : settlePoll st s = .next t) : t.EngineCoherent := by
  have hcap' : s.captured ≠ none := by simp [hcap]
  have hbound : ∀ q, s.polls = some q → q ≤ s.maxPolls := by simpa [hpolls] using hle
  obtain ⟨hst, rfl⟩ | ⟨hst, rfl⟩ | ⟨hst, hsend, rfl⟩ | ⟨hst, hquery, rfl⟩ := settlePoll_next h
  · simp only [State.EngineCoherent, hphase]
    refine ⟨hop, hcmd, hhs, hresult, p + 1, some st, hpolls, hle, hcap, by simp, fun st' heq => ?_⟩
    cases heq
    exact hsClass_busy.1 hst
  · obtain ⟨o, ho⟩ := Option.ne_none_iff_exists'.1 hop
    exact finish_coherent (s := s.setHs .faulted) hcmd hcap' hbound ho (by cases o <;> rfl) nofun nofun
      fun _ => ⟨rfl, st, hcap, hst⟩
  · exact finish_coherent (s := s.setHs .ready) hcmd hcap' hbound hsend rfl (fun _ => ⟨rfl, st, hcap, hst⟩) nofun nofun
  · exact ⟨hquery, hcmd, rfl, hresult, p + 1, st, hpolls, by omega, hle, hcap, hst⟩

theorem waitStep_coherent {s t : State} (hs : s.EngineCoherent) (hwait : s.phase = .wait) (h : waitStep s = .next t) :
    t.EngineCoherent := by
  simp only [State.EngineCoherent, hwait] at hs
  obtain ⟨hop, hcmd, hhs, hresult, p, c, hpolls, hle, hcap, -, -⟩ := hs
  obtain ⟨o, ho⟩ := Option.ne_none_iff_exists'.1 hop
  have hcap' : s.captured ≠ none := by simp [hcap]
  have hbound : ∀ q, s.polls = some q → q ≤ s.maxPolls := by simpa [hpolls] using hle
  obtain ⟨p', hp', ⟨hlt, hpoll⟩ | ⟨hge, rfl⟩⟩ := waitStep_next h
  · obtain ⟨e, -, rfl⟩ | ⟨b, -, hsettle⟩ := pollStep_next hpoll
    · exact raise_transport_coherent (s := s.afterRead regStatus 1) e ho hcmd hcap' hbound
    · exact settlePoll_coherent (s := (s.afterRead regStatus 1).countPoll p' (decodeStatus b)) hwait hop hcmd hhs hresult rfl hlt
        rfl hsettle
  · have hmax : s.polls = some s.maxPolls := by rw [hp', Nat.le_antisymm (hbound p' hp') hge]
    exact finish_coherent hcmd hcap' hbound ho (by cases o <;> rfl) nofun (fun _ => ⟨hhs, hmax⟩) nofun

theorem fetchStep_coherent {s t : State} (hs : s.EngineCoherent) (hfetch : s.phase = .fetch) (h : fetchStep s = .next t) :
    t.EngineCoherent := by
  simp only [State.EngineCoherent, hfetch] at hs
  obtain ⟨hop, hcmd, hhs, -, p, st, hpolls, -, hle, hcap, hst⟩ := hs
  have hbound : ∀ q, s.polls = some q → q ≤ s.maxPolls := by simpa [hpolls] using hle
  obtain ⟨e, -, rfl⟩ | ⟨b, st', -, hcap', rfl⟩ := fetchStep_next h
  · exact raise_transport_coherent (s := s.afterRead regCommand 1) e hop hcmd (by simp [hcap]) hbound
  · cases hcap.symm.trans hcap'
    exact finish_interpret_coherent (s := s.afterRead regCommand 1) b hop hcmd hhs hcap hst hbound

theorem doneStep_coherent {s t : State} (h : doneStep s = .next t) : t.EngineCoherent := by
  obtain ⟨r, -, rfl⟩ := doneStep_next h
  exact ⟨rfl, rfl, rfl, rfl, rfl, rfl⟩

/-- R11: no step touches the parameters. -/
theorem step_parametersOk {s t : State} (h : step s = .next t) : t.ParametersOk := by
  rw [State.ParametersOk, (step_frame h).gatewayAddr, (step_frame h).maxPolls]
  exact (step_next h).1

/-! ### No step of a coherent state faults -/

theorem whenIdle_next_ne_fault (s : State) (g : State → State) (f : Fault) : s.whenIdle (fun s => .next (g s)) ≠ .fault f := by
  by_cases hs : s.phase = .idle
  · rw [whenIdle_idle hs]; nofun
  · rw [whenIdle_busy hs]; nofun

theorem rawWrite_ne_fault (reg : Byte) (payload : List Byte) (s : State) (f : Fault) : rawWrite reg payload s ≠ .fault f :=
  whenIdle_next_ne_fault s _ f

theorem rawRead_ne_fault (reg : Byte) (n : Nat) (s : State) (f : Fault) : rawRead reg n s ≠ .fault f :=
  whenIdle_next_ne_fault s _ f

/-- An instruction reads no engine register that may be unset. -/
theorem exec_ne_fault (i : Instr) (s : State) (f : Fault) : exec i s ≠ .fault f := by
  cases i with
  | encodeAddress sel target mode => nofun
  | writeRegister reg payload =>
    by_cases hp : payload = []
    · subst hp; nofun
    · rw [exec_writeRegister reg s hp]; exact rawWrite_ne_fault reg payload s f
  | readRegister reg n =>
    by_cases hn : n = 0
    · subst hn; nofun
    · rw [exec_readRegister reg s hn]; exact rawRead_ne_fault reg n.toNat s f
  | send a d => rw [exec_send]; exact whenIdle_next_ne_fault s _ f
  | query a d => rw [exec_query]; exact whenIdle_next_ne_fault s _ f
  | decodeStatus b => nofun
  | addrShort target mode => nofun
  | addrGroup group mode => nofun
  | addrBroadcast mode => nofun
  | rdStatus => exact rawRead_ne_fault _ _ s f
  | wrCommand a d => exact rawWrite_ne_fault _ _ s f
  | rdReply => exact rawRead_ne_fault _ _ s f
  | wrConfig b => exact rawWrite_ne_fault _ _ s f
  | rdSignature => exact rawRead_ne_fault _ _ s f
  | wrI2cAddr b0 b1 => exact rawWrite_ne_fault _ _ s f

theorem callStep_ne_fault (s : State) (f : Fault) : callStep s ≠ .fault f := by
  cases hp : s.pending with
  | nil => rw [callStep_of_nil hp]; nofun
  | cons c rest =>
    cases hd : decode c with
    | ok i => rw [callStep_of_ok hp hd]; exact exec_ne_fault i _ f
    | error e => rw [callStep_of_error hp hd]; nofun

/-- R111: with OP set, every status settles. -/
theorem settlePoll_answers {s : State} {o : Op} (st : StatusByte) (ho : s.op = some o) : ∃ t, settlePoll st s = .next t := by
  cases hst : hsClass st with
  | busy => exact ⟨_, settlePoll_of_busy hst s⟩
  | faulted => exact ⟨_, settlePoll_of_faulted hst s⟩
  | ready =>
    cases o with
    | send => exact ⟨_, settlePoll_of_ready_send hst ho⟩
    | query => exact ⟨_, settlePoll_of_ready_query hst ho⟩

/-- R22: a coherent state in flight has every register its step reads, so the step answers a next state. -/
theorem coherent_in_flight_answers {s : State} (hs : s.Coherent) (hphase : s.phase ≠ .idle) : ∃ t, step s = .next t := by
  obtain ⟨hp, he⟩ := hs
  cases hph : s.phase with
  | idle => exact absurd hph hphase
  | issue =>
    simp only [State.EngineCoherent, hph] at he
    obtain ⟨-, hcmd, -⟩ := he
    obtain ⟨c, hc⟩ := Option.ne_none_iff_exists'.1 hcmd
    rw [step_of_issue hp hph]
    cases ho : s.writeOutcome with
    | ok u => exact ⟨_, issueStep_of_ok hc ho⟩
    | err e => exact ⟨_, issueStep_of_err hc ho⟩
  | wait =>
    simp only [State.EngineCoherent, hph] at he
    obtain ⟨hop, -, -, -, p, -, hpolls, hle, -⟩ := he
    obtain ⟨o, ho⟩ := Option.ne_none_iff_exists'.1 hop
    obtain hlt | rfl := Nat.lt_or_eq_of_le hle
    · cases hread : s.readOutcome 1 with
      | err e => exact ⟨_, step_poll_of_err hp hph hpolls hlt hread⟩
      | ok bs =>
        obtain ⟨b, rfl⟩ := readOutcome_one hread
        rw [step_poll_of_ok hp hph hpolls hlt hread]
        exact settlePoll_answers (s := s.polled p b) _ ho
    · exact ⟨_, by rw [step_of_wait hp hph, waitStep_at_bound hpolls]⟩
  | fetch =>
    simp only [State.EngineCoherent, hph] at he
    obtain ⟨-, -, -, -, -, st, -, -, -, hcap, -⟩ := he
    cases hread : s.readOutcome 1 with
    | err e => exact ⟨_, step_fetch_of_err hp hph hread⟩
    | ok bs =>
      obtain ⟨v, rfl⟩ := readOutcome_one hread
      exact ⟨_, step_fetch_of_ok hp hph hcap hread⟩
  | done =>
    simp only [State.EngineCoherent, hph] at he
    obtain ⟨-, -, -, -, r, -, hr, -⟩ := he
    exact ⟨_, by rw [step_of_done hp hph, doneStep, readResult_of_some hr]⟩

theorem coherent_step_ne_fault {s : State} (hs : s.Coherent) (f : Fault) : step s ≠ .fault f := by
  by_cases hidle : s.phase = .idle
  · rw [step_of_idle hs.1 hidle]
    exact callStep_ne_fault s f
  · obtain ⟨t, ht⟩ := coherent_in_flight_answers hs hidle
    rw [ht]
    nofun

/-! ### The obligations -/

/-- Settles O36, by the phase: each phase's step keeps the registers coherent, and no step touches the parameters. -/
theorem stepKeepsCoherence : Obligations.StepKeepsCoherence := by
  intro s t hs h
  refine ⟨step_parametersOk h, ?_⟩
  obtain ⟨-, ⟨hph, hcall⟩ | ⟨hph, hissue⟩ | ⟨hph, hwait⟩ | ⟨hph, hfetch⟩ | ⟨-, hdone⟩⟩ := step_next h
  · exact callStep_coherent hs.2 hph hcall
  · exact issueStep_coherent hs.2 hph hissue
  · exact waitStep_coherent hs.2 hph hwait
  · exact fetchStep_coherent hs.2 hph hfetch
  · exact doneStep_coherent hdone

/-- Settles O37, by induction on the number of steps, with coherence as the invariant. -/
theorem coherentRunsNeverFault : Obligations.CoherentRunsNeverFault := by
  intro n
  induction n with
  | zero => intro s _ f; nofun
  | succ n ih =>
    intro s hs f
    cases h : step s with
    | next t => rw [runSteps_next n h]; exact ih t (stepKeepsCoherence s t hs h) f
    | fault g => exact absurd h (coherent_step_ne_fault hs g)
    | refused r => rw [runSteps_succ, h]; nofun

/-- Settles O44: only Done returns an engine's result, and there coherence says what the result is. -/
theorem deliveredResultsAreAllowed : Obligations.DeliveredResultsAreAllowed := by
  intro s t r hs h hd
  by_cases hidle : s.phase = .idle
  · rw [step_of_idle hs.1 hidle] at h
    obtain ⟨-, rfl⟩ | ⟨c, rest, i, -, -, hexec⟩ := callStep_next h
    · simp at hd
    · obtain ⟨r', rfl, hne⟩ | ⟨-, reg, payload, rfl⟩ | ⟨-, reg, n, rfl⟩ | ⟨-, o, cmd, rfl⟩ := exec_next hexec
      · exact absurd (give_eq_of_delivered rfl hd) (hne r)
      · cases give_eq_of_delivered rfl hd
      · cases give_eq_of_delivered rfl hd
      · simp at hd
  · obtain hsame | ⟨hdone, r', hr, rfl⟩ := step_in_flight_delivered hidle h
    · simp [hsame] at hd
    · obtain rfl : r' = r := by simpa using hd
      have he := hs.2
      simp only [State.EngineCoherent, hdone] at he
      obtain ⟨-, -, -, o, r'', hop, hr'', hallowed, hready, -⟩ := he
      cases hr.symm.trans hr''
      refine ⟨o, hop, hr, hallowed, ?_⟩
      rintro ⟨v, rfl⟩
      obtain ⟨-, st, hcap, hst⟩ := hready rfl
      exact ⟨st, hcap, hsClass_ready.1 hst⟩

end Sys2Proof.Machine

/-! SUPPORT. SEND, QUERY and WAIT_READY in their operation form (spec/42_command_engine.md R99 to R101): the transactions each makes and the
result it gives, under any environment and under a script of answers. -/

namespace Sys2Proof.Machine

/-! ### A state advanced by a list of transactions -/

/-- R54, R75: the state after these transactions, in order: each uses up one answer. -/
def State.advanced (s : State) (events : List Event) : State :=
  { s with
    answers := s.answers.drop events.length
    draws := s.draws + events.length
    trace := s.trace ++ events }

@[simp] theorem State.advanced_nil (s : State) : s.advanced [] = s := by
  simp [State.advanced]

@[simp] theorem State.advanced_advanced (s : State) (es es' : List Event) :
    (s.advanced es).advanced es' = s.advanced (es ++ es') := by
  simp [State.advanced, Nat.add_assoc]

/-- As many answers as transactions are used up. -/
theorem State.advanced_answers_of_append {s : State} {es : List Event} {used more : List Answer} (h : s.answers = used ++ more)
    (hlen : es.length = used.length) : (s.advanced es).answers = more := by
  simp only [State.advanced, h, hlen, List.drop_left]

/-- A listed answer of one byte is the outcome of a one-byte read. -/
theorem readOutcome_one_of_ok {s : State} {b : Byte} {rest : List Answer} (h : s.answers = .ok [b] :: rest) :
    s.readOutcome 1 = .ok [b] :=
  readOutcome_of_ok h

theorem State.perform_eq_advanced (s : State) (tr : Transaction) (o : Answer) :
    s.perform tr o = s.advanced [⟨s.gatewayAddr, tr, o⟩] := by
  simp [State.perform, State.advanced]

theorem afterWrite_command (s : State) (c : DaliCommand) :
    s.afterWrite regCommand (commandPayload c) = s.advanced [commandWriteEvent s c (writeAnswer s.writeOutcome)] :=
  s.perform_eq_advanced _ _

theorem afterRead_status (s : State) : s.afterRead regStatus 1 = s.advanced [pollEvent s (s.readOutcome 1)] :=
  s.perform_eq_advanced _ _

theorem afterRead_reply (s : State) : s.afterRead regCommand 1 = s.advanced [replyEvent s (s.readOutcome 1)] :=
  s.perform_eq_advanced _ _

/-! ### WAIT_READY, one poll at a time -/

@[simp] theorem waitReady_zero (s : State) : waitReady 0 s = (.err .timeout, s) := rfl

theorem waitReady_of_err {s : State} {e : TransportError} (n : Nat) (h : s.readOutcome 1 = .err e) :
    waitReady (n + 1) s = (.err (.transport e), s.afterRead regStatus 1) := by
  simp only [waitReady, h]

theorem waitReady_of_busy {s : State} {b : Byte} (n : Nat) (h : s.readOutcome 1 = .ok [b])
    (hb : hsClass (decodeStatus b) = .busy) : waitReady (n + 1) s = waitReady n (s.afterRead regStatus 1) := by
  have hbusy := hsClass_busy.1 hb
  simp only [waitReady, h, firstByte_singleton, hbusy, if_true]

theorem waitReady_of_faulted {s : State} {b : Byte} (n : Nat) (h : s.readOutcome 1 = .ok [b])
    (hb : hsClass (decodeStatus b) = .faulted) : waitReady (n + 1) s = (.err .busFault, s.afterRead regStatus 1) := by
  obtain ⟨hbusy, hfault⟩ := hsClass_faulted.1 hb
  simp [waitReady, h, hbusy, hfault]

theorem waitReady_of_ready {s : State} {b : Byte} (n : Nat) (h : s.readOutcome 1 = .ok [b])
    (hb : hsClass (decodeStatus b) = .ready) : waitReady (n + 1) s = (.ok (decodeStatus b), s.afterRead regStatus 1) := by
  obtain ⟨hbusy, hfault⟩ := hsClass_ready.1 hb
  simp [waitReady, h, hbusy, hfault]

/-! ### The polls of a ready-wait -/

/-- R104: every poll read busy. -/
def AllBusy (polls : List Answer) : Prop :=
  ∀ o ∈ polls, ∃ b, o = .ok [b] ∧ busyByte b

/-- R111: the last poll read busy and bus-fault clear. -/
def EndsReady (polls : List Answer) : Prop :=
  ∃ b, polls.getLast? = some (.ok [b]) ∧ readyByte b

theorem not_readyByte_of_busy {b : Byte} (h : busyByte b) : ¬ readyByte b :=
  fun hr => Bool.false_ne_true (hr.1.symm.trans h)

theorem not_endsReady_of_allBusy {polls : List Answer} (h : AllBusy polls) : ¬ EndsReady polls := by
  rintro ⟨b, hlast, hready⟩
  obtain ⟨b', heq, hbusy⟩ := h _ (List.mem_of_getLast? hlast)
  cases heq
  exact not_readyByte_of_busy hbusy hready

@[simp] theorem allBusy_nil : AllBusy [] := nofun

@[simp] theorem not_endsReady_nil : ¬ EndsReady [] := nofun

@[simp] theorem allBusy_singleton_iff (o : Answer) : AllBusy [o] ↔ ∃ b, o = .ok [b] ∧ busyByte b := by
  simp only [AllBusy, List.mem_singleton, forall_eq]

@[simp] theorem endsReady_singleton_iff (o : Answer) : EndsReady [o] ↔ ∃ b, o = .ok [b] ∧ readyByte b := by
  simp only [EndsReady, List.getLast?_singleton, Option.some_inj]

theorem allBusy_cons_iff {b : Byte} {polls : List Answer} (hb : busyByte b) : AllBusy (.ok [b] :: polls) ↔ AllBusy polls := by
  rw [AllBusy, AllBusy, List.forall_mem_cons]
  exact and_iff_right ⟨b, rfl, hb⟩

theorem endsReady_cons_iff {b : Byte} {polls : List Answer} (hb : busyByte b) :
    EndsReady (.ok [b] :: polls) ↔ EndsReady polls := by
  rw [EndsReady, EndsReady, List.getLast?_cons]
  cases polls.getLast? with
  | none =>
    refine ⟨?_, nofun⟩
    rintro ⟨b', heq, hready⟩
    cases heq
    exact absurd hready (not_readyByte_of_busy hb)
  | some o => exact Iff.rfl

/-- R101: a ready-wait makes polls up to its bound, times out exactly when all of them read busy, and succeeds exactly when the last one
read ready. -/
theorem waitReady_polls (n : Nat) (s : State) :
    ∃ polls : List Answer, (waitReady n s).2 = s.advanced (polls.map (pollEvent s)) ∧ polls.length ≤ n ∧ (0 < n → polls ≠ []) ∧
      ((waitReady n s).1 = .err .timeout ↔ polls.length = n ∧ AllBusy polls) ∧
      ((∃ st, (waitReady n s).1 = .ok st) ↔ EndsReady polls) := by
  induction n generalizing s with
  | zero => exact ⟨[], by simp⟩
  | succ n ih =>
    cases hread : s.readOutcome 1 with
    | err e =>
      refine ⟨[.err e], ?_⟩
      simp [waitReady_of_err n hread, afterRead_status, hread]
    | ok bs =>
      obtain ⟨b, rfl⟩ := readOutcome_one hread
      have hpoll : s.afterRead regStatus 1 = s.advanced [pollEvent s (.ok [b])] := by rw [afterRead_status, hread]
      cases hst : hsClass (decodeStatus b) with
      | busy =>
        have hb := hsClass_decodeStatus_busy.1 hst
        obtain ⟨polls, hstate, hlen, -, htimeout, hready⟩ := ih (s.afterRead regStatus 1)
        refine ⟨.ok [b] :: polls, ?_, by simpa using hlen, by simp, ?_, ?_⟩
        · rw [waitReady_of_busy n hread hst, hstate, hpoll, State.advanced_advanced]; rfl
        · rw [waitReady_of_busy n hread hst, htimeout, allBusy_cons_iff hb]; simp
        · rw [waitReady_of_busy n hread hst, hready, endsReady_cons_iff hb]
      | faulted =>
        obtain ⟨hbusy, hfault⟩ := hsClass_decodeStatus_faulted.1 hst
        have hnotBusy : ¬ busyByte b := Bool.eq_false_iff.1 hbusy
        have hnotReady : ¬ readyByte b := fun h => Bool.false_ne_true (h.2.symm.trans hfault)
        refine ⟨[.ok [b]], ?_⟩
        simp [-BitVec.getLsbD_eq_getElem, waitReady_of_faulted n hread hst, hpoll, hnotBusy, hnotReady]
      | ready =>
        have hready := hsClass_decodeStatus_ready.1 hst
        have hnotBusy : ¬ busyByte b := fun h => not_readyByte_of_busy h hready
        refine ⟨[.ok [b]], ?_⟩
        simpa [-BitVec.getLsbD_eq_getElem, waitReady_of_ready n hread hst, hpoll, hnotBusy] using hready

/-! ### The command write and the ready-wait -/

theorem issueAndWait_of_err {s : State} {e : TransportError} (c : DaliCommand) (h : s.writeOutcome = .err e) :
    issueAndWait c s = (.err (.transport e), s.afterWrite regCommand (commandPayload c)) := by
  simp only [issueAndWait, h]

theorem issueAndWait_of_ok {s : State} (c : DaliCommand) (h : s.writeOutcome = .ok ()) :
    issueAndWait c s = waitReady s.maxPolls (s.afterWrite regCommand (commandPayload c)) := by
  simp only [issueAndWait, h]

/-- R122: the transactions of the part SEND and QUERY share. -/
theorem issueAndWait_transactions {s : State} (c : DaliCommand) (hp : s.ParametersOk) :
    ∃ (w : Answer) (polls : List Answer),
      (issueAndWait c s).2 = s.advanced (commandWriteEvent s c w :: polls.map (pollEvent s)) ∧
      polls.length ≤ s.maxPolls ∧ (polls = [] ↔ ∃ e, w = .err e) ∧
      ((issueAndWait c s).1 = .err .timeout ↔ polls.length = s.maxPolls ∧ AllBusy polls) ∧
      ((∃ st, (issueAndWait c s).1 = .ok st) ↔ EndsReady polls) := by
  have hbound := ((parametersWellFormed_iff _ _).1 hp).1
  cases ho : s.writeOutcome with
  | err e =>
    refine ⟨.err e, [], ?_⟩
    have hne : 0 ≠ s.maxPolls := by omega
    simp [issueAndWait_of_err c ho, afterWrite_command, ho, writeAnswer, hne]
  | ok u =>
    obtain ⟨polls, hstate, hlen, hne, htimeout, hready⟩ := waitReady_polls s.maxPolls (s.afterWrite regCommand (commandPayload c))
    rw [issueAndWait_of_ok c ho]
    refine ⟨.ok [], polls, ?_, hlen, by simpa using hne hbound, htimeout, hready⟩
    rw [hstate, afterWrite_command, ho, State.advanced_advanced]
    rfl

/-! ### SEND and QUERY -/

theorem sendOperation_of_err {c : DaliCommand} {s t : State} {e : EngineError} (h : issueAndWait c s = (.err e, t)) :
    sendOperation c s = (.err e, t) := by
  simp only [sendOperation, h]

theorem sendOperation_of_ok {c : DaliCommand} {s t : State} {st : StatusByte} (h : issueAndWait c s = (.ok st, t)) :
    sendOperation c s = (.ok .unit, t) := by
  simp only [sendOperation, h]

/-- R112, R113: the result of a reply read made after this ready-time status. -/
def replyResult (st : StatusByte) : Answer → EngineResult
  | .err e => .err (.transport e)
  | .ok bs => interpret st (firstByte bs)

theorem replyResult_ne_timeout (st : StatusByte) (o : Answer) : replyResult st o ≠ .err .timeout := by
  cases o with
  | err e => simp [replyResult]
  | ok bs => obtain h | h | h | h := interpret_cases st (firstByte bs) <;> simp [replyResult, h]

theorem queryOperation_of_err {c : DaliCommand} {s t : State} {e : EngineError} (h : issueAndWait c s = (.err e, t)) :
    queryOperation c s = (.err e, t) := by
  simp only [queryOperation, h]

/-- R100: after a ready-wait that succeeds, the reply is read and interpreted. -/
theorem queryOperation_of_ok {c : DaliCommand} {s t : State} {st : StatusByte} (h : issueAndWait c s = (.ok st, t)) :
    queryOperation c s = (replyResult st (t.readOutcome 1), t.afterRead regCommand 1) := by
  cases hread : t.readOutcome 1 with
  | err e => simp only [queryOperation, h, hread, replyResult]
  | ok bs =>
    simp only [queryOperation, h, hread, replyResult, interpret]
    cases st.frameError with
    | true => rfl
    | false =>
      cases st.overrun with
      | true => rfl
      | false => cases st.replyValid <;> rfl

/-- After these transactions a reply read that succeeds is one more, and its byte is interpreted. -/
theorem queryOperation_of_reply {c : DaliCommand} {s : State} {es : List Event} {st : StatusByte} {v : Byte}
    (h : issueAndWait c s = (.ok st, s.advanced es)) (hread : (s.advanced es).readOutcome 1 = .ok [v]) :
    queryOperation c s = (interpret st v, s.advanced (es ++ [replyEvent s (.ok [v])])) := by
  rw [queryOperation_of_ok h, afterRead_reply, hread, State.advanced_advanced]
  rfl

/-- R99, R122: SEND's transactions are those of the part it shares with QUERY. -/
theorem sendOperation_transactions {s : State} (c : DaliCommand) (hp : s.ParametersOk) :
    ∃ (w : Answer) (polls : List Answer),
      (sendOperation c s).2 = s.advanced (commandWriteEvent s c w :: polls.map (pollEvent s)) ∧
      polls.length ≤ s.maxPolls ∧ (polls = [] ↔ ∃ e, w = .err e) ∧
      ((sendOperation c s).1 = .err .timeout ↔ polls.length = s.maxPolls ∧ AllBusy polls) := by
  obtain ⟨w, polls, hstate, hlen, hempty, htimeout, -⟩ := issueAndWait_transactions c hp
  cases h : issueAndWait c s with
  | mk r t =>
    rw [h] at hstate htimeout
    cases r with
    | err e =>
      rw [sendOperation_of_err h]
      exact ⟨w, polls, hstate, hlen, hempty, by rw [← htimeout]; simp⟩
    | ok st =>
      rw [sendOperation_of_ok h]
      exact ⟨w, polls, hstate, hlen, hempty, by rw [← htimeout]; simp⟩

/-- R100, R122: QUERY's transactions are those and, after a ready last poll, the reply read. -/
theorem queryOperation_transactions {s : State} (c : DaliCommand) (hp : s.ParametersOk) :
    ∃ (w : Answer) (polls reply : List Answer),
      (queryOperation c s).2 =
        s.advanced (commandWriteEvent s c w :: polls.map (pollEvent s) ++ reply.map (replyEvent s)) ∧
      polls.length ≤ s.maxPolls ∧ reply.length ≤ 1 ∧ (polls = [] ↔ ∃ e, w = .err e) ∧
      (reply.length = 1 ↔ EndsReady polls) ∧
      ((queryOperation c s).1 = .err .timeout ↔ polls.length = s.maxPolls ∧ AllBusy polls) := by
  obtain ⟨w, polls, hstate, hlen, hempty, htimeout, hready⟩ := issueAndWait_transactions c hp
  cases h : issueAndWait c s with
  | mk r t =>
    rw [h] at hstate htimeout hready
    cases r with
    | err e =>
      refine ⟨w, polls, [], ?_, hlen, by simp, hempty, ?_, ?_⟩
      · rw [queryOperation_of_err h]; simpa using hstate
      · rw [← hready]; simp
      · rw [queryOperation_of_err h, ← htimeout]; simp
    | ok st =>
      refine ⟨w, polls, [t.readOutcome 1], ?_, hlen, by simp, hempty, ?_, ?_⟩
      · subst hstate
        rw [queryOperation_of_ok h]
        exact (afterRead_reply _).trans (State.advanced_advanced s _ _)
      · rw [← hready]; simp
      · rw [queryOperation_of_ok h, ← htimeout]; simp [replyResult_ne_timeout]

/-! ### Under a script of answers -/

/-- Polls that read busy use up the bound one by one. -/
theorem waitReady_of_busy_answers {busy : List Byte} {more : List Answer} (n : Nat) {s : State}
    (hans : s.answers = (busy.map fun b => .ok [b]) ++ more) (hbusy : ∀ b ∈ busy, busyByte b) :
    waitReady (busy.length + n) s = waitReady n (s.advanced (busy.map fun b => pollEvent s (.ok [b]))) := by
  induction busy generalizing s with
  | nil => simp
  | cons b busy ih =>
    have hread : s.readOutcome 1 = .ok [b] := readOutcome_one_of_ok hans
    have hb : hsClass (decodeStatus b) = .busy := hsClass_decodeStatus_busy.2 (hbusy b List.mem_cons_self)
    have hpoll : s.afterRead regStatus 1 = s.advanced [pollEvent s (.ok [b])] := by rw [afterRead_status, hread]
    have hrest : (s.afterRead regStatus 1).answers = (busy.map fun b => .ok [b]) ++ more := by simp [hans]
    calc waitReady ((b :: busy).length + n) s
        = waitReady (busy.length + n + 1) s := by rw [List.length_cons, Nat.add_right_comm]
      _ = waitReady (busy.length + n) (s.afterRead regStatus 1) := waitReady_of_busy _ hread hb
      _ = waitReady n ((s.afterRead regStatus 1).advanced (busy.map fun b => pollEvent s (.ok [b]))) :=
          ih hrest fun x hx => hbusy x (List.mem_cons_of_mem b hx)
      _ = waitReady n (s.advanced ((b :: busy).map fun b => pollEvent s (.ok [b]))) := by
          rw [hpoll, State.advanced_advanced]; rfl

/-- The command write that succeeds, then polls that read busy. -/
theorem issueAndWait_of_busy_answers {w busy : List Byte} {more : List Answer} {n : Nat} {s : State} (c : DaliCommand)
    (hans : s.answers = .ok w :: (busy.map fun b => .ok [b]) ++ more) (hbusy : ∀ b ∈ busy, busyByte b)
    (hn : s.maxPolls = busy.length + n) :
    issueAndWait c s =
      waitReady n (s.advanced (commandWriteEvent s c (.ok []) :: busy.map fun b => pollEvent s (.ok [b]))) := by
  have hwrite : s.writeOutcome = .ok () := writeOutcome_of_ok hans
  have hrest : (s.afterWrite regCommand (commandPayload c)).answers = (busy.map fun b => .ok [b]) ++ more := by simp [hans]
  rw [issueAndWait_of_ok c hwrite, hn, waitReady_of_busy_answers n hrest hbusy, afterWrite_command, hwrite,
    State.advanced_advanced]
  rfl

/-- R108: polls that all read busy, up to the bound, end in Timeout. -/
theorem issueAndWait_of_endless_busy {w busy : List Byte} {more : List Answer} {s : State} (c : DaliCommand)
    (hans : s.answers = .ok w :: (busy.map fun b => .ok [b]) ++ more) (hbusy : ∀ b ∈ busy, busyByte b)
    (hn : busy.length = s.maxPolls) :
    issueAndWait c s =
      (.err .timeout, s.advanced (commandWriteEvent s c (.ok []) :: busy.map fun b => pollEvent s (.ok [b]))) := by
  rw [issueAndWait_of_busy_answers (n := 0) c hans hbusy hn.symm, waitReady_zero]

/-- R111: polls that read busy and then, within the bound, one that reads ready. -/
theorem issueAndWait_of_ready {w busy : List Byte} {ready : Byte} {more : List Answer} {s : State} (c : DaliCommand)
    (hans : s.answers = .ok w :: (busy.map fun b => .ok [b]) ++ .ok [ready] :: more) (hbusy : ∀ b ∈ busy, busyByte b)
    (hready : readyByte ready) (hn : busy.length + 1 ≤ s.maxPolls) :
    issueAndWait c s =
      (.ok (decodeStatus ready),
        s.advanced (commandWriteEvent s c (.ok []) :: (busy ++ [ready]).map fun b => pollEvent s (.ok [b]))) := by
  obtain ⟨n, hn⟩ := Nat.exists_eq_add_of_le hn
  have hnext : (s.advanced (commandWriteEvent s c (.ok []) :: busy.map fun b => pollEvent s (.ok [b]))).answers =
      .ok [ready] :: more := State.advanced_answers_of_append hans (by simp)
  have hread := readOutcome_one_of_ok hnext
  rw [issueAndWait_of_busy_answers (n := n + 1) c hans hbusy (by omega),
    waitReady_of_ready n hread (hsClass_decodeStatus_ready.2 hready), afterRead_status, hread, State.advanced_advanced]
  rw [List.map_append]
  rfl

/-! ### The obligations -/

/-- Settles O47: the events of SEND are the write and the polls, and the state moves by them alone. -/
theorem sendTraceShape : Obligations.SendTraceShape := by
  intro s c hp
  obtain ⟨w, polls, hstate, hlen, hempty, htimeout⟩ := sendOperation_transactions c hp
  refine ⟨w, polls, ?_, hlen, hempty, htimeout⟩
  rw [hstate]
  simp [State.advanced, Nat.add_comm]

/-- Settles O48: the events of QUERY are the write, the polls and the reply read, and the state moves by them alone. -/
theorem queryTraceShape : Obligations.QueryTraceShape := by
  intro s c hp
  obtain ⟨w, polls, reply, hstate, hlen, hreply, hempty, hready, htimeout⟩ := queryOperation_transactions c hp
  refine ⟨w, polls, reply, ?_, hlen, hreply, hempty, hready, htimeout⟩
  rw [hstate]
  simp [State.advanced, Nat.add_comm 1, Nat.add_right_comm _ 1]

end Sys2Proof.Machine

/-! SUPPORT. The step rules and the operation rules agree (spec/42_command_engine.md R120): an operation run by steps is simulated by its
operation form, where `State.toIdle` relates a state in flight to the state of the operation form, and the number of steps is told by
the number of transactions. -/

namespace Sys2Proof.Machine

/-! ### Runs of several steps -/

theorem runSteps_one {s t : State} (h : step s = .next t) : runSteps 1 s = .next t :=
  runSteps_next 0 h

/-- A run goes on from where its first part leads. -/
theorem runSteps_add {m : Nat} {s t : State} (n : Nat) (h : runSteps m s = .next t) : runSteps (m + n) s = runSteps n t := by
  induction m generalizing s with
  | zero => cases h; rw [Nat.zero_add]
  | succ m ih =>
    rw [runSteps_succ] at h
    cases hstep : step s with
    | next u =>
      rw [hstep] at h
      rw [Nat.add_right_comm, runSteps_next _ hstep, ih h]
    | fault f => rw [hstep] at h; cases h
    | refused r => rw [hstep] at h; cases h

/-! ### The two operations as one family -/

/-- R76: the instruction of an operation. -/
def Op.instr : Op → Byte → Byte → Instr
  | .send, a, d => .send a d
  | .query, a, d => .query a d

/-- R99, R100: the operation form of an operation. -/
def Op.form : Op → DaliCommand → State → EngineResult × State
  | .send => sendOperation
  | .query => queryOperation

theorem exec_instr (op : Op) (a d : Byte) (s : State) :
    exec (op.instr a d) s = s.whenIdle fun s => .next (s.accept op ⟨a, d⟩) := by
  cases op <;> rfl

theorem Op.form_of_err {op : Op} {c : DaliCommand} {s t : State} {e : EngineError} (h : issueAndWait c s = (.err e, t)) :
    op.form c s = (.err e, t) := by
  cases op with
  | send => exact sendOperation_of_err h
  | query => exact queryOperation_of_err h

/-- An operation moves the boundary by its transactions alone. -/
theorem Op.form_advanced (op : Op) {s : State} (c : DaliCommand) (hp : s.ParametersOk) :
    ∃ es, (op.form c s).2 = s.advanced es := by
  cases op with
  | send => obtain ⟨w, polls, h, -⟩ := sendOperation_transactions c hp; exact ⟨_, h⟩
  | query => obtain ⟨w, polls, reply, h, -⟩ := queryOperation_transactions c hp; exact ⟨_, h⟩

/-- R108: how many steps of an operation with this result make no transaction: the one that ends the wait at its bound. -/
def boundSteps {α : Type} : Result EngineError α → Nat
  | .err .timeout => 1
  | _ => 0

theorem boundSteps_le {α : Type} (r : Result EngineError α) : boundSteps r ≤ 1 := by
  unfold boundSteps
  split
  · exact le_rfl
  · exact Nat.zero_le 1

theorem boundSteps_of_ne_timeout {α : Type} {r : Result EngineError α} (h : r ≠ .err .timeout) : boundSteps r = 0 := by
  unfold boundSteps
  split
  · exact absurd rfl h
  · rfl

/-- An error ends an operation as it ended its ready-wait, after the same number of steps. -/
theorem boundSteps_err {α β : Type} (e : EngineError) :
    boundSteps (.err e : Result EngineError α) = boundSteps (.err e : Result EngineError β) := by
  cases e <;> rfl

/-! ### The ready-wait -/

/-- A wait of this operation with `p` polls made. -/
structure InWait (op : Op) (p : Nat) (s : State) : Prop where
  parameters : s.ParametersOk
  phase : s.phase = .wait
  op : s.op = some op
  polls : s.polls = some p

/-- R108 to R111: where an operation stands when its ready-wait has ended with this result. -/
def WaitEnded (op : Op) (s : State) : Result EngineError StatusByte → Prop
  | .err e => s.phase = .done ∧ s.result = some (.err e)
  | .ok st =>
    match op with
    | .send => s.phase = .done ∧ s.result = some (.ok .unit)
    | .query => s.phase = .fetch ∧ s.captured = some (some st)

/-- A poll moves the boundary as it does in the operation form. -/
theorem polled_toIdle {s : State} {p : Nat} {b : Byte} (h : s.readOutcome 1 = .ok [b]) :
    (s.polled p b).toIdle = s.toIdle.afterRead regStatus 1 := by
  rw [afterRead_eq (s := s.toIdle) (o := .ok [b]) regStatus h]
  rfl

theorem InWait.polled {op : Op} {p : Nat} {s : State} (h : InWait op p s) (b : Byte) : InWait op (p + 1) (s.polled p b) :=
  ⟨h.parameters, h.phase, h.op, rfl⟩

/-- R120 for WAIT_READY: by induction on the polls left, the steps of Wait run the operation form. -/
theorem wait_simulates {op : Op} (n : Nat) {p : Nat} {s : State} (h : InWait op p s) (hn : p + n = s.maxPolls) :
    ∃ k t, runSteps k s = .next t ∧ t.ParametersOk ∧ t.toIdle = (waitReady n s.toIdle).2 ∧
      WaitEnded op t (waitReady n s.toIdle).1 ∧ k + s.draws = t.draws + boundSteps (waitReady n s.toIdle).1 := by
  induction n generalizing p s with
  | zero =>
    have hpolls : s.polls = some s.maxPolls := by rw [h.polls, ← hn, Nat.add_zero]
    have hstep : step s = .next (s.raise .timeout) := by rw [step_of_wait h.parameters h.phase, waitStep_at_bound hpolls]
    exact ⟨1, _, runSteps_one hstep, h.parameters, rfl, ⟨rfl, rfl⟩, Nat.add_comm 1 s.draws⟩
  | succ n ih =>
    have hlt : p < s.maxPolls := by omega
    cases hread : s.readOutcome 1 with
    | err e =>
      have hstep := step_poll_of_err h.parameters h.phase h.polls hlt hread
      rw [waitReady_of_err (s := s.toIdle) n hread]
      refine ⟨1, _, runSteps_one hstep, h.parameters, ?_, ⟨rfl, rfl⟩, Nat.add_comm 1 s.draws⟩
      rw [afterRead_eq (s := s.toIdle) regStatus hread]
      rfl
    | ok bs =>
      obtain ⟨b, rfl⟩ := readOutcome_one hread
      have hstep := step_poll_of_ok h.parameters h.phase h.polls hlt hread
      have hidle : (s.polled p b).toIdle = s.toIdle.afterRead regStatus 1 := polled_toIdle hread
      cases hst : hsClass (decodeStatus b) with
      | busy =>
        rw [settlePoll_of_busy hst] at hstep
        obtain ⟨k, t, hrun, hp, ht, hended, hcount⟩ := ih (h.polled b) (by simp [State.polled]; omega)
        rw [hidle] at ht hended hcount
        rw [waitReady_of_busy (s := s.toIdle) n hread hst]
        refine ⟨k + 1, t, by rw [runSteps_next k hstep, hrun], hp, ht, hended, ?_⟩
        rw [← hcount, Nat.add_right_comm]
        rfl
      | faulted =>
        rw [settlePoll_of_faulted hst] at hstep
        rw [waitReady_of_faulted (s := s.toIdle) n hread hst]
        exact ⟨1, _, runSteps_one hstep, h.parameters, hidle, ⟨rfl, rfl⟩, Nat.add_comm 1 s.draws⟩
      | ready =>
        rw [waitReady_of_ready (s := s.toIdle) n hread hst]
        cases op with
        | send =>
          rw [settlePoll_of_ready_send hst (h.polled b).op] at hstep
          exact ⟨1, _, runSteps_one hstep, h.parameters, hidle, ⟨rfl, rfl⟩, Nat.add_comm 1 s.draws⟩
        | query =>
          rw [settlePoll_of_ready_query hst (h.polled b).op] at hstep
          exact ⟨1, _, runSteps_one hstep, h.parameters, hidle, ⟨rfl, rfl⟩, Nat.add_comm 1 s.draws⟩

/-! ### From acceptance to Done -/

/-- R120 for the command write and the ready-wait. -/
theorem issue_simulates {op : Op} {c : DaliCommand} {s : State} (hp : s.ParametersOk) (hissue : s.phase = .issue)
    (hop : s.op = some op) (hc : s.cmd = some c) :
    ∃ k t, runSteps k s = .next t ∧ t.ParametersOk ∧ t.toIdle = (issueAndWait c s.toIdle).2 ∧
      WaitEnded op t (issueAndWait c s.toIdle).1 ∧ k + s.draws = t.draws + boundSteps (issueAndWait c s.toIdle).1 := by
  cases ho : s.writeOutcome with
  | err e =>
    have hstep := issueStep_of_err hc ho
    rw [← step_of_issue hp hissue] at hstep
    rw [issueAndWait_of_err (s := s.toIdle) c ho, afterWrite_eq (s := s.toIdle) regCommand (commandPayload c) ho]
    exact ⟨1, _, runSteps_one hstep, hp, rfl, ⟨rfl, rfl⟩, Nat.add_comm 1 s.draws⟩
  | ok u =>
    have hstep := issueStep_of_ok hc ho
    rw [← step_of_issue hp hissue] at hstep
    rw [issueAndWait_of_ok (s := s.toIdle) c ho, afterWrite_eq (s := s.toIdle) regCommand (commandPayload c) ho]
    obtain ⟨k, t, hrun, hp', ht, hended, hcount⟩ := wait_simulates (op := op) s.maxPolls (p := 0)
      (s := (s.perform (.write regCommand (commandPayload c)) (.ok [])).startWait) ⟨hp, rfl, hop, rfl⟩ (Nat.zero_add _)
    refine ⟨k + 1, t, by rw [runSteps_next k hstep, hrun], hp', ht, hended, ?_⟩
    refine Eq.trans ?_ hcount
    exact Nat.add_right_comm k 1 s.draws

/-- R112: the Fetch step reads and interprets the reply as the operation form does. -/
theorem fetch_simulates {st : StatusByte} {s : State} (hp : s.ParametersOk) (hfetch : s.phase = .fetch)
    (hcap : s.captured = some (some st)) :
    ∃ t, step s = .next t ∧ t.phase = .done ∧ t.result = some (replyResult st (s.toIdle.readOutcome 1)) ∧
      t.toIdle = s.toIdle.afterRead regCommand 1 := by
  cases hread : s.readOutcome 1 with
  | err e =>
    rw [show s.toIdle.readOutcome 1 = .err e from hread, afterRead_eq (s := s.toIdle) regCommand hread]
    exact ⟨_, step_fetch_of_err hp hfetch hread, rfl, rfl, rfl⟩
  | ok bs =>
    obtain ⟨v, rfl⟩ := readOutcome_one hread
    rw [show s.toIdle.readOutcome 1 = .ok [v] from hread, afterRead_eq (s := s.toIdle) regCommand hread]
    exact ⟨_, step_fetch_of_ok hp hfetch hcap hread, rfl, rfl, rfl⟩

/-- R120: an accepted operation runs to Done with the result and the transactions of its operation form. -/
theorem operation_simulates {op : Op} {c : DaliCommand} {s : State} (hp : s.ParametersOk) (hissue : s.phase = .issue)
    (hop : s.op = some op) (hc : s.cmd = some c) :
    ∃ k t, runSteps k s = .next t ∧ t.phase = .done ∧ t.result = some (op.form c s.toIdle).1 ∧
      t.toIdle = (op.form c s.toIdle).2 ∧ k + s.draws = t.draws + boundSteps (op.form c s.toIdle).1 := by
  obtain ⟨k, t, hrun, hp', ht, hended, hcount⟩ := issue_simulates hp hissue hop hc
  cases h : issueAndWait c s.toIdle with
  | mk r u =>
    rw [h] at ht hended hcount
    cases r with
    | err e =>
      obtain ⟨hdone, hresult⟩ := hended
      rw [Op.form_of_err h]
      exact ⟨k, t, hrun, hdone, hresult, ht, hcount.trans (congrArg (t.draws + ·) (boundSteps_err e))⟩
    | ok st =>
      cases op with
      | send =>
        obtain ⟨hdone, hresult⟩ := hended
        rw [Op.form, sendOperation_of_ok h]
        exact ⟨k, t, hrun, hdone, hresult, ht, hcount⟩
      | query =>
        obtain ⟨hfetch, hcap⟩ := hended
        obtain ⟨t', hstep, hdone, hresult, hidle⟩ := fetch_simulates hp' hfetch hcap
        have hdraws : t'.draws = t.draws + 1 := draws_eq_of_toIdle (t := t.afterRead regCommand 1) hidle
        rw [show t.toIdle = u from ht] at hresult hidle
        rw [Op.form, queryOperation_of_ok h]
        refine ⟨k + 1, t', by rw [runSteps_add 1 hrun, runSteps_one hstep], hdone, hresult, hidle, ?_⟩
        rw [boundSteps_of_ne_timeout (replyResult_ne_timeout st _), hdraws, Nat.add_right_comm, hcount]
        rfl

/-! ### From the caller's call to its result -/

/-- An idle engine with nothing set is its own idle state. -/
theorem toIdle_of_registersUnset {s : State} (hidle : s.phase = .idle) (h : s.RegistersUnset) : s.toIdle = s := by
  obtain ⟨hop, hcmd, hhs, hpolls, hcap, hresult⟩ := h
  cases s
  simp_all [State.toIdle]

theorem step_done_delivers {s : State} {r : EngineResult} (hp : s.ParametersOk) (hdone : s.phase = .done)
    (hr : s.result = some r) : step s = .next (s.deliver r) := by
  rw [step_of_done hp hdone, doneStep, readResult_of_some hr]

/-- R120: an operation accepted by an idle engine runs to its delivery, a step for each transaction, the step that ends the wait at its
bound if there is one, and the delivery. -/
theorem accepted_operation_runs {op : Op} {c : DaliCommand} {s : State} (hp : s.ParametersOk) (hidle : s.phase = .idle)
    (hunset : s.RegistersUnset) :
    ∃ k, k + s.draws = (op.form c s).2.draws + boundSteps (op.form c s).1 + 1 ∧
      runSteps k (s.accept op c) =
        .next { (op.form c s).2 with delivered := s.delivered ++ [.engine (op.form c s).1] } := by
  obtain ⟨k, t, hrun, hdone, hresult, ht, hcount⟩ := operation_simulates (s := s.accept op c) (op := op) (c := c) hp rfl rfl rfl
  rw [show (s.accept op c).toIdle = s from toIdle_of_registersUnset hidle hunset] at hresult ht hcount
  obtain ⟨es, hes⟩ := op.form_advanced c hp
  have hadv : t.toIdle = s.advanced es := ht.trans hes
  have hp' : t.ParametersOk := by
    rw [State.ParametersOk, show t.gatewayAddr = s.gatewayAddr from (congrArg State.gatewayAddr hadv :),
      show t.maxPolls = s.maxPolls from (congrArg State.maxPolls hadv :)]
    exact hp
  have hdelivered : t.delivered = s.delivered := (congrArg State.delivered hadv :)
  have hdeliver := step_done_delivers hp' hdone hresult
  refine ⟨k + 1, ?_, ?_⟩
  · rw [Nat.add_right_comm, ← ht]
    exact congrArg (· + 1) hcount
  · rw [runSteps_add 1 hrun, runSteps_one hdeliver, ← ht, ← hdelivered]
    rfl

/-- R120 from the caller's call: acceptance is one step more. -/
theorem steps_agree_with_operation {op : Op} {s : State} {call : Call} {rest : List Call} {a d : Byte} (hs : s.Coherent)
    (hidle : s.phase = .idle) (hpending : s.pending = call :: rest) (hd : decode call = .ok (op.instr a d)) :
    ∃ k, k + s.draws = (op.form ⟨a, d⟩ { s with pending := rest }).2.draws +
          boundSteps (op.form ⟨a, d⟩ { s with pending := rest }).1 + 2 ∧
      runSteps k s = .next { (op.form ⟨a, d⟩ { s with pending := rest }).2 with
        delivered := s.delivered ++ [.engine (op.form ⟨a, d⟩ { s with pending := rest }).1] } := by
  obtain ⟨hp, he⟩ := hs
  have hunset := (engineCoherent_of_idle hidle).1 he
  have haccept : step s = .next (State.accept { s with pending := rest } op ⟨a, d⟩) := by
    rw [step_of_idle hp hidle, callStep_of_ok hpending hd, exec_instr]
    exact whenIdle_idle (s := { s with pending := rest }) hidle _
  obtain ⟨k, hcount, hrun⟩ := accepted_operation_runs (op := op) (c := ⟨a, d⟩) (s := { s with pending := rest }) hp hidle hunset
  refine ⟨k + 1, ?_, by rw [runSteps_next k haccept, hrun]⟩
  rw [Nat.add_right_comm]
  exact congrArg (· + 1) hcount

/-- The same under a script of answers: an operation form that is known and uses up `m` answers tells the number of steps. -/
theorem runSteps_operation {op : Op} {s : State} {call : Call} {rest : List Call} {a d : Byte} {r : EngineResult} {es : List Event}
    {used more : List Answer} {m : Nat} (hs : s.Coherent) (hidle : s.phase = .idle) (hpending : s.pending = call :: rest)
    (hd : decode call = .ok (op.instr a d)) (hans : s.answers = used ++ more) (hused : used.length = m) (hes : es.length = m)
    (hform : op.form ⟨a, d⟩ { s with pending := rest } = (r, State.advanced { s with pending := rest } es)) :
    runSteps (m + boundSteps r + 2) s = .next { s with
      pending := rest
      answers := more
      draws := s.draws + m
      trace := s.trace ++ es
      delivered := s.delivered ++ [.engine r] } := by
  obtain ⟨k, hcount, hrun⟩ := steps_agree_with_operation hs hidle hpending hd
  rw [hform] at hcount hrun
  simp only [State.advanced, hes] at hcount hrun
  have hk : k = m + boundSteps r + 2 := by omega
  rw [← hk, hrun, hans, List.drop_left' hused]

/-! ### The obligations -/

/-- Settles O45: the simulation for SEND, whose transactions are the write and at most MAX_POLLS polls. -/
theorem sendStepsAgreeWithOperation : Obligations.SendStepsAgreeWithOperation := by
  intro s call rest a d hs hidle hpending hd
  obtain ⟨k, hcount, hrun⟩ := steps_agree_with_operation (op := .send) hs hidle hpending hd
  obtain ⟨w, polls, hstate, hlen, -, -⟩ := sendOperation_transactions (s := { s with pending := rest }) ⟨a, d⟩ hs.1
  replace hlen : polls.length ≤ s.maxPolls := hlen
  refine ⟨k, ?_, hrun⟩
  have hbound := boundSteps_le (sendOperation ⟨a, d⟩ { s with pending := rest }).1
  simp only [Op.form, hstate, State.advanced, List.length_cons, List.length_map] at hcount
  omega

/-- Settles O46: the simulation for QUERY, which either reads the reply or takes the step that ends the wait at its bound. -/
theorem queryStepsAgreeWithOperation : Obligations.QueryStepsAgreeWithOperation := by
  intro s call rest a d hs hidle hpending hd
  obtain ⟨k, hcount, hrun⟩ := steps_agree_with_operation (op := .query) hs hidle hpending hd
  obtain ⟨w, polls, reply, hstate, hlen, hreply, -, hready, htimeout⟩ :=
    queryOperation_transactions (s := { s with pending := rest }) ⟨a, d⟩ hs.1
  replace hlen : polls.length ≤ s.maxPolls := hlen
  refine ⟨k, ?_, hrun⟩
  have hone : reply.length + boundSteps (queryOperation ⟨a, d⟩ { s with pending := rest }).1 ≤ 1 := by
    by_cases h : (queryOperation ⟨a, d⟩ { s with pending := rest }).1 = .err .timeout
    · have hnone : reply.length ≠ 1 := fun h1 => not_endsReady_of_allBusy (htimeout.1 h).2 (hready.1 h1)
      have hbound := boundSteps_le (queryOperation ⟨a, d⟩ { s with pending := rest }).1
      omega
    · rw [boundSteps_of_ne_timeout h]; omega
  simp only [Op.form, hstate, State.advanced, List.length_cons, List.length_map, List.length_append] at hcount
  omega

/-- Settles O49: the simulation for SEND under the script of N busy polls and a ready one. -/
theorem sendSucceedsAfterBusyPolls : Obligations.SendSucceedsAfterBusyPolls := by
  intro s call rest a d w busy ready more hs hidle hpending hd hans hbusy hready hn
  have hform := sendOperation_of_ok (issueAndWait_of_ready (s := { s with pending := rest }) ⟨a, d⟩ hans hbusy hready hn)
  have hans' : s.answers = (.ok w :: (busy.map fun b => .ok [b]) ++ [.ok [ready]]) ++ more := by simp [hans]
  exact runSteps_operation (op := .send) (m := busy.length + 2) hs hidle hpending hd hans' (by simp) (by simp) hform

/-- Settles O50: the simulation for either operation under the script of MAX_POLLS busy polls. -/
theorem endlessBusyTimesOut : Obligations.EndlessBusyTimesOut := by
  intro s call rest a d w busy more hs hidle hpending hd hans hbusy hn
  have hwait := issueAndWait_of_endless_busy (s := { s with pending := rest }) ⟨a, d⟩ hans hbusy hn
  obtain ⟨op, hop⟩ : ∃ op : Op, decode call = .ok (op.instr a d) := hd.elim (fun h => ⟨.send, h⟩) fun h => ⟨.query, h⟩
  exact runSteps_operation (m := s.maxPolls + 1) hs hidle hpending hop hans (by simp [hn]) (by simp [hn]) (Op.form_of_err hwait)

/-- Settles O51: the simulation for QUERY under the script of N busy polls, a ready one and the reply. -/
theorem queryReturnsTheReplyByte : Obligations.QueryReturnsTheReplyByte := by
  intro s call rest a d w busy ready v more hs hidle hpending hd hans hbusy hready hvalid hframe hover hn
  have hform := queryOperation_of_reply (issueAndWait_of_ready (s := { s with pending := rest }) ⟨a, d⟩ hans hbusy hready hn)
    (readOutcome_one_of_ok (State.advanced_answers_of_append (more := .ok [v] :: more)
      (used := .ok w :: (busy.map fun b => .ok [b]) ++ [.ok [ready]]) (by simp [hans]) (by simp)))
  rw [interpret_of_replyValid v hframe hover hvalid] at hform
  have hans' : s.answers = (.ok w :: (busy.map fun b => .ok [b]) ++ [.ok [ready], .ok [v]]) ++ more := by simp [hans]
  rw [List.append_assoc]
  exact runSteps_operation (op := .query) (m := busy.length + 3) hs hidle hpending hd hans' (by simp) (by simp) hform

end Sys2Proof.Machine
